-- ==== Sys2Proof/Word.lean ====
section
/-! DEFINITION. The word types of the XVAL unit (spec/00_scope.md rule R6): bytes, the 16-bit command word,
the 32-bit words of SHA-1 and of the register reads, and the 64-bit block and key registers. Bit 0 of every
word is its least significant bit. -/

namespace Sys2Proof

/-- One byte: a serial character, an xval character, a plaintext byte (rule R61). -/
abbrev Byte := BitVec 8

/-- One command word (rule R60). `MSGV` has the same width (rule R10). -/
abbrev Word16 := BitVec 16

/-- A SHA-1 word (rule R102), a register read (rule R41), one half of `PT` (rule R180). -/
abbrev Word32 := BitVec 32

/-- A DES block or key (rules R13, R15, R16). -/
abbrev Word64 := BitVec 64

end Sys2Proof
end

