-- ==== Sys2Proof/Syntax.lean ====
section
/-! DEFINITION. The commands of the XVAL unit: one constructor per row of spec/opcode_table.json
(spec/30_encoding.md rule R62). A word that matches no row is no command; what the unit does with it is
`Machine.illegalCommand`. -/

namespace Sys2Proof

/-- The nine commands of rule R62. -/
inductive Instr where
  /-- NOP, do nothing (rule R162). -/
  | nop
  /-- CLR, clear the unit (rule R163). -/
  | clr
  /-- PUSHS, push one serial byte (rule R81). -/
  | pushs (b : Byte)
  /-- PUSHX, push one character of the xval text (rule R82). -/
  | pushx (c : Byte)
  /-- PUSHP, push one plaintext byte (rule R83). -/
  | pushp (b : Byte)
  /-- KDF, derive the key from the serial (rule R112). -/
  | kdf
  /-- DEC, decrypt the ciphertext with the key already derived (rule R145). -/
  | dec
  /-- CLS, classify the plaintext (rule R187). -/
  | cls
  /-- DECRYPT, validate, derive and decrypt as one command (rule R160). -/
  | decrypt
  deriving DecidableEq, Repr

end Sys2Proof
end

