-- ==== Sys2Proof/WellFormed.lean ====
section
/-! DEFINITION. Well-formedness: which pairs of an opcode and an `imm8` are a command (spec/30_encoding.md rules R60
and R64), and the operand range of rule R61. -/

namespace Sys2Proof

/-- The two fields of the one format `C` (rule R60). -/
structure CommandFields where
  /-- Bits 15:8. -/
  op : Byte
  /-- Bits 7:0. -/
  imm8 : Byte
  deriving DecidableEq, Repr

/-- The opcodes whose `imm8` is an operand (rule R62). -/
def operandOpcodes : List Byte := [0x10, 0x11, 0x12]

/-- The opcodes whose `imm8` must be zero (rules R60 and R62). -/
def plainOpcodes : List Byte := [0x00, 0x01, 0x20, 0x21, 0x22, 0x23]

/-- Rule R64: a word is illegal when its opcode is outside the nine, or when a command without an operand has a
non-zero `imm8`. -/
def CommandFields.wellFormed (f : CommandFields) : Bool :=
  operandOpcodes.contains f.op || (plainOpcodes.contains f.op && f.imm8 == 0)

/-- Rule R61: an operand is an unsigned byte, 0 to 255. The type of the operand enforces it, so every command is
well-formed; the check that can fail is `CommandFields.wellFormed`. -/
def Instr.wellFormed : Instr → Bool
  | .nop => true
  | .clr => true
  | .pushs b => decide (b.toNat ≤ 255)
  | .pushx c => decide (c.toNat ≤ 255)
  | .pushp b => decide (b.toNat ≤ 255)
  | .kdf => true
  | .dec => true
  | .cls => true
  | .decrypt => true

end Sys2Proof
end

