-- ==== Sys2Proof/Decode.lean ====
section
/-! DEFINITION. Decoding and encoding of command words (spec/30_encoding.md rules R60 to R65). The command port takes
whole 16-bit words and has no byte order; decoding does not depend on the state (rule R65). -/

namespace Sys2Proof

/-- Why a word is no command (rule R64). Both reasons have the one effect `Fail(E_ILLEGAL)`. -/
inductive DecodeError where
  /-- The opcode is none of the nine. -/
  | undefinedOpcode (op : Byte)
  /-- The command takes no operand and `imm8` is not zero. -/
  | nonzeroImmediate (op imm8 : Byte)
  deriving DecidableEq, Repr

/-- The fields of a command word (rule R60). -/
def fieldsOf (w : Word16) : CommandFields := { op := w.extractLsb' 8 8, imm8 := w.extractLsb' 0 8 }

/-- `Decode` of rule R63, in its order; `ILLEGAL` is the error, with its reason. -/
def decode (w : Word16) : Except DecodeError Instr :=
  let f := fieldsOf w
  if f.op = 0x10 then .ok (.pushs f.imm8)
  else if f.op = 0x11 then .ok (.pushx f.imm8)
  else if f.op = 0x12 then .ok (.pushp f.imm8)
  else if w = 0x0000 then .ok .nop
  else if w = 0x0100 then .ok .clr
  else if w = 0x2000 then .ok .kdf
  else if w = 0x2100 then .ok .dec
  else if w = 0x2200 then .ok .cls
  else if w = 0x2300 then .ok .decrypt
  else if plainOpcodes.contains f.op then .error (.nonzeroImmediate f.op f.imm8)
  else .error (.undefinedOpcode f.op)

/-- The instruction decoded from a table word of `nbits` bits: a command is one 16-bit word (rule R60), so a row of
more bits is no command, and the bits above `nbits` are zero. -/
def decodeTableWord (nbits w : Nat) : Option Instr :=
  if nbits ≤ 16 then (decode (BitVec.ofNat 16 (w % 2 ^ nbits))).toOption else none

/-- The opcode of a command (rule R62, column `op`). -/
def opcode : Instr → Byte
  | .nop => 0x00
  | .clr => 0x01
  | .pushs _ => 0x10
  | .pushx _ => 0x11
  | .pushp _ => 0x12
  | .kdf => 0x20
  | .dec => 0x21
  | .cls => 0x22
  | .decrypt => 0x23

/-- The operand byte of a command, zero where it has none (rules R60 and R61). -/
def immediate : Instr → Byte
  | .nop => 0x00
  | .clr => 0x00
  | .pushs b => b
  | .pushx c => c
  | .pushp b => b
  | .kdf => 0x00
  | .dec => 0x00
  | .cls => 0x00
  | .decrypt => 0x00

/-- The command word of a command: the opcode in bits 15:8, the operand byte in bits 7:0 (rule R60). -/
def encode (i : Instr) : Word16 := opcode i ++ immediate i

/-- The mask column of the opcode map (rule R62). -/
def rowMask : Instr → Word16
  | .nop => 0xFFFF
  | .clr => 0xFFFF
  | .pushs _ => 0xFF00
  | .pushx _ => 0xFF00
  | .pushp _ => 0xFF00
  | .kdf => 0xFFFF
  | .dec => 0xFFFF
  | .cls => 0xFFFF
  | .decrypt => 0xFFFF

/-- The match column of the opcode map (rule R62). -/
def rowMatch : Instr → Word16
  | .nop => 0x0000
  | .clr => 0x0100
  | .pushs _ => 0x1000
  | .pushx _ => 0x1100
  | .pushp _ => 0x1200
  | .kdf => 0x2000
  | .dec => 0x2100
  | .cls => 0x2200
  | .decrypt => 0x2300

/-- Rule R62: "word `w` selects the row when `w & mask = match`". The operand of `i` plays no part. -/
def selectsRow (w : Word16) (i : Instr) : Bool := w &&& rowMask i == rowMatch i

/-- One instruction of each row of the opcode map, in the order of rule R62. -/
def rowRepresentatives : List Instr :=
  [.nop, .clr, .pushs 0, .pushx 0, .pushp 0, .kdf, .dec, .cls, .decrypt]

end Sys2Proof
end

