-- ==== Sys2Proof/Config.lean ====
section
/-! DEFINITION. What an implementation of the XVAL unit fixes: the predicate `RejectKey` of spec/00_scope.md rule R5
and spec/42_des_decrypt.md rule R144, held as plain data. -/

namespace Sys2Proof

/-- A set of 64-bit keys: the keys that agree with `value` in every bit that `mask` selects. -/
structure KeyPattern where
  /-- The bits of the key that are compared. -/
  mask : Word64
  /-- What those bits must be. -/
  value : Word64
  deriving DecidableEq, Repr

/-- The configuration of one unit. Rule R144: "`RejectKey : 64-bit key → bool` is a configuration parameter of the
unit"; the cipher refuses a key exactly when one of `rejects` covers it (`Machine.rejectKey`). Every predicate on
64-bit keys is such a list (`Laws.rejectKey_represents_every_predicate`), so nothing is assumed of `RejectKey` but
that it is a function of the key alone. DESIGN CHOICE (notes/assumptions/3.md): the predicate is written as data, so
that a state can be compared and written out. Unsafe only for claims about runs from `State.reset`. -/
structure Config where
  /-- The keys the cipher refuses. -/
  rejects : List KeyPattern
  deriving DecidableEq, Repr

/-- The default of rules R5 and R144: "the cipher core accepts every 64-bit key". -/
def Config.neverRejects : Config := { rejects := [] }

/-- `RejectKey = fun _ => true`, the configuration of spec/95_test_vectors.md V37. -/
def Config.alwaysRejects : Config := { rejects := [{ mask := 0, value := 0 }] }

/-- The four weak and twelve semi-weak DES keys that rule R144 lists. -/
def weakKeys : List Word64 :=
  [ 0x0101010101010101#64, 0xFEFEFEFEFEFEFEFE#64, 0xE0E0E0E0F1F1F1F1#64, 0x1F1F1F1F0E0E0E0E#64,
    0x011F011F010E010E#64, 0x1F011F010E010E01#64, 0x01E001E001F101F1#64, 0xE001E001F101F101#64,
    0x01FE01FE01FE01FE#64, 0xFE01FE01FE01FE01#64, 0x1FE01FE00EF10EF1#64, 0xE01FE01FF10EF10E#64,
    0x1FFE1FFE0EFE0EFE#64, 0xFE1FFE1FFE0EFE0E#64, 0xE0FEE0FEF1FEF1FE#64, 0xFEE0FEE0FEF1FEF1#64 ]

/-- `RejectKey_weak`, the instantiation rule R144 gives as information: the listed keys, parity bits ignored. -/
def Config.rejectsWeakKeys : Config :=
  { rejects := weakKeys.map fun w => { mask := 0xFEFEFEFEFEFEFEFE#64, value := w } }

end Sys2Proof
end

