-- ==== Sys2Proof/Machine/State.lean ====
section
/-! DEFINITION. The state of one XVAL unit: the fourteen architectural elements of spec/10_state.md rule R10, and
beside them what the rules call inputs and parameters of the step (rule R34), which a step over a state alone has
to find in the state: the configuration, the level of the reset input and the host's events that are still to come. -/

namespace Sys2Proof.Machine

/-- What the host can do to the unit: write a command word (rule R60), or drive the one reset input (rule R230).
Reads are no events: they have no side effect (rules R41 and R44). -/
inductive HostEvent where
  /-- The host writes one word to the command port. -/
  | command (w : Word16)
  /-- The reset input is asserted. -/
  | assertReset
  /-- The reset input is released. -/
  | releaseReset
  deriving DecidableEq, Repr

/-- The reasons a step can stop with a fault. There are none: every command is a total function of the state
(rule R237) and "every command completes" (rule R236); an error is a state (rule R200), not a stop. DEDUCED, safe
(notes/assumptions/6.md). -/
inductive Fault where
  deriving DecidableEq, Repr

/-- The reasons a step can refuse. -/
inductive Refusal where
  /-- Raised by `exec` for an instruction that has no meaning yet; no instruction of this model is left so. Safe. -/
  | notModelled (mnemonic : String)
  deriving DecidableEq, Repr

/-- One XVAL unit and its host's side. -/
structure State where
  /-- `SER`: the serial number bytes (rules R10, R11). -/
  ser : Vector Byte 12
  /-- `SCNT`: serial bytes pushed, saturating at 255 (rule R12). -/
  scnt : Byte
  /-- `CT`: the ciphertext block decoded from the xval text (rule R13). -/
  ct : Word64
  /-- `XCNT`: xval characters pushed that are not the dash, saturating at 255 (rule R14). -/
  xcnt : Byte
  /-- `XBAD`: a character that is neither the dash nor a hexadecimal digit was pushed (rule R14). -/
  xbad : Bool
  /-- `PT`: the plaintext block (rule R15). -/
  pt : Word64
  /-- `PCNT`: plaintext bytes in `PT`, saturating at 255 (rule R15). -/
  pcnt : Byte
  /-- `PV`: `PT` holds exactly 8 bytes (rule R15). -/
  pv : Bool
  /-- `KEY`: the derived DES key (rule R16). -/
  key : Word64
  /-- `KV`: `KEY` was derived from the current `SER` (rule R16). -/
  kv : Bool
  /-- `CLASS`: the classification code (rule R17). -/
  cls : BitVec 3
  /-- `MSGV`: the message vector (rule R17). -/
  msgv : Word16
  /-- `CV`: `CLASS` and `MSGV` are the classification of `PT` (rule R17). -/
  cv : Bool
  /-- `ERR`: the error code, non-zero in the error state (rule R19). -/
  err : BitVec 4
  /-- The model's own field: the configuration `RejectKey` (rule R34). No step changes it. DESIGN CHOICE
  (notes/assumptions/3.md). -/
  cfg : Config
  /-- The model's own field: whether the reset input is asserted (rule R230). DESIGN CHOICE
  (notes/assumptions/2.md). -/
  resetLine : Bool
  /-- The model's own field: what the host does next, the earliest event first (rules R30 and R46). DESIGN CHOICE
  (notes/assumptions/1.md). -/
  inputs : List HostEvent
  deriving DecidableEq, Repr

/-- The machine right after reset: all fourteen elements zero (rule R33), `RejectKey` at the default of rule R5, the
reset input released, and no event waiting. -/
def State.reset : State where
  ser := Vector.replicate 12 0
  scnt := 0
  ct := 0
  xcnt := 0
  xbad := false
  pt := 0
  pcnt := 0
  pv := false
  key := 0
  kv := false
  cls := 0
  msgv := 0
  cv := false
  err := 0
  cfg := Config.neverRejects
  resetLine := false
  inputs := []

end Sys2Proof.Machine
end

