-- ==== Sys2Proof/Machine/Operands.lean ====
section
/-! DEFINITION. Operand forms: the saturating counter and the byte orders of spec/00_scope.md rules R6 and R8, and the
character classes of spec/40_frontend_operands.md rule R80. -/

namespace Sys2Proof.Machine

/-- `SERIAL_LEN` (rule R5): bytes in a valid serial. -/
def serialLen : Nat := 12

/-- `XVAL_NIBBLES` (rule R5): hexadecimal characters in a valid xval after dash removal. -/
def xvalNibbles : Nat := 16

/-- `KEY_LEN` (rule R5): bytes of derived key. -/
def keyLen : Nat := 8

/-- `BLOCK_LEN` (rule R5): bytes of ciphertext and of plaintext. -/
def blockLen : Nat := 8

/-- `CNT_MAX` (rule R5): the saturation value of the three byte counters. -/
def cntMax : Nat := 255

/-- `sat(c)` of rule R6: `min(c + 1, 255)`. -/
def satSucc (c : Byte) : Byte := BitVec.ofNat 8 (min (c.toNat + 1) cntMax)

/-- `BE(B)` of rule R6: the big-endian number a byte string spells, byte 0 the most significant. -/
def beNat (bs : List Byte) : Nat := bs.foldl (fun acc b => 256 * acc + b.toNat) 0

/-- `Bytes_n(v)` of rule R6: the `n` bytes of `v`, the most significant first. -/
def beBytes (n v : Nat) : List Byte :=
  (List.range n).map fun i => BitVec.ofNat 8 (v >>> (8 * (n - 1 - i)))

/-- The dash, the single byte `0x2D` (rule R80). -/
def dash : Byte := 0x2D

/-- `HexVal` of rule R80: the value of a hexadecimal digit character, upper and lower case. -/
def hexVal (c : Byte) : Option (BitVec 4) :=
  if 0x30 ≤ c.toNat ∧ c.toNat ≤ 0x39 then some (BitVec.ofNat 4 (c.toNat - 0x30))
  else if 0x41 ≤ c.toNat ∧ c.toNat ≤ 0x46 then some (BitVec.ofNat 4 (c.toNat - 0x41 + 10))
  else if 0x61 ≤ c.toNat ∧ c.toNat ≤ 0x66 then some (BitVec.ofNat 4 (c.toNat - 0x61 + 10))
  else none

end Sys2Proof.Machine
end

