-- ==== Sys2Proof/Machine/Flags.lean ====
section
/-! DEFINITION. The derived predicates (spec/10_state.md rule R25) and the three status words made of flags, counters
and result codes (rules R26 to R28). The unit has no arithmetic condition codes (rule R18). -/

namespace Sys2Proof.Machine

/-- `SVALID := (SCNT = 12)` (rules R12 and R25). -/
def State.svalid (s : State) : Bool := s.scnt.toNat == serialLen

/-- `XVALID := (XCNT = 16) ∧ (XBAD = 0)` (rules R14 and R25). -/
def State.xvalid (s : State) : Bool := s.xcnt.toNat == xvalNibbles && !s.xbad

/-- `ERRF := (ERR ≠ 0)` (rule R25). -/
def State.errf (s : State) : Bool := s.err != 0

/-- `BUSY := 0`: every command is atomic as the host sees it (rules R25 and R240). -/
def State.busy (_s : State) : Bool := false

/-- A flag as the bit `at_` of a 32-bit word. -/
def flagBit (b : Bool) (at_ : Nat) : Word32 := (if b then 1#32 else 0#32) <<< at_

/-- STATUS, register read index 0 (rule R26). -/
def State.status (s : State) : Word32 :=
  flagBit s.errf 0 ||| flagBit s.kv 1 ||| flagBit s.pv 2 ||| flagBit s.cv 3 ||| flagBit s.xbad 4
    ||| flagBit s.svalid 5 ||| flagBit s.xvalid 6 ||| flagBit s.busy 7 ||| (s.err.setWidth 32 <<< 8)

/-- COUNTS, register read index 1 (rule R27). -/
def State.counts (s : State) : Word32 :=
  s.scnt.setWidth 32 ||| (s.xcnt.setWidth 32 <<< 8) ||| (s.pcnt.setWidth 32 <<< 16)

/-- RESULT, register read index 8 (rule R28). -/
def State.result (s : State) : Word32 := s.msgv.setWidth 32 ||| (s.cls.setWidth 32 <<< 16)

end Sys2Proof.Machine
end

