-- ==== Sys2Proof/Machine/Ops.lean ====
section
/-! DEFINITION. The shared operations over the state: taking an error (`Fail`, spec/60_exceptions.md rule R202), leaving
the error state (rule R204), the error-state gate (rule R203), and the writes that several commands share. -/

namespace Sys2Proof.Machine

/-- The causes of an error (rule R201). `internal` is the reserved cause that no command raises (rule R206). -/
inductive ErrorCause where
  /-- `E_XVAL`: the xval text is not sixteen hexadecimal digits. -/
  | xval
  /-- `E_SERIAL`: the serial is not twelve bytes. -/
  | serial
  /-- `E_CRYPTO`: the cipher refuses the derived key. -/
  | crypto
  /-- `E_INTERNAL`: the derived key is not eight bytes; structurally impossible. -/
  | internal
  /-- `E_NOKEY`: DEC without a derived key. -/
  | noKey
  /-- `E_PLEN`: `PT` does not hold exactly eight bytes. -/
  | pLen
  /-- `E_ILLEGAL`: an undefined command word. -/
  | illegal
  deriving DecidableEq, Repr

/-- The error codes of rule R201. -/
def errorCode : ErrorCause → BitVec 4
  | .xval => 1
  | .serial => 2
  | .crypto => 3
  | .internal => 4
  | .noKey => 5
  | .pLen => 6
  | .illegal => 7

/-- Discard the classification: `CLASS <- 0; MSGV <- 0; CV <- 0` (rules R83, R145, R160, R202). -/
def clearClassification (s : State) : State := { s with cls := 0, msgv := 0, cv := false }

/-- TAKING AN ERROR: `Fail(code)` of rule R202, the one error entry. It records the code and clears every result;
the operands `SER`, `SCNT`, `CT`, `XCNT`, `XBAD` are kept. -/
def failWith (cause : ErrorCause) (s : State) : State :=
  clearClassification
    { s with err := errorCode cause, key := 0, kv := false, pt := 0, pcnt := 0, pv := false }

/-- LEAVING THE ERROR STATE, and clearing the unit in any state: every element of rule R10 takes its reset value
(rules R163, R204 and R231). The configuration, the reset input and the host's events are no elements of rule R10. -/
def clearUnit (s : State) : State :=
  { State.reset with cfg := s.cfg, resetLine := s.resetLine, inputs := s.inputs }

/-- The error-state gate of rule R203: while `ERR ≠ 0` the command changes nothing. -/
def unlessError (act : State → State) (s : State) : State := if s.err = 0 then act s else s

/-- A decrypted block becomes the plaintext: `PT`, `PCNT <- 8`, `PV <- 1`, and the classification is discarded
(rules R145 and R160). -/
def loadPlaintext (p : Word64) (s : State) : State :=
  clearClassification { s with pt := p, pcnt := BitVec.ofNat 8 blockLen, pv := true }

/-- A derived key becomes the key: `KEY <- k`, `KV <- 1` (rules R112 and R160). -/
def loadKey (k : Word64) (s : State) : State := { s with key := k, kv := true }

/-- What a word that is no command does: `Fail(E_ILLEGAL)` while `ERR = 0`, nothing in the error state
(rules R64 and R203). -/
def illegalCommand (s : State) : Host.Outcome State Fault Refusal :=
  .next (unlessError (failWith .illegal) s)

end Sys2Proof.Machine
end

