-- ==== Sys2Proof/Machine/Classifier.lean ====
section
/-! DEFINITION. The flag classifier: `Classify` and the command CLS (spec/44_flag_classifier.md rules R180 to R184 and
R187). -/

namespace Sys2Proof.Machine

/-- The outcomes of rule R17. -/
inductive ClassCode where
  /-- `C_NONE`: no classification present. -/
  | none
  /-- `C_CLEAN`. -/
  | clean
  /-- `C_INVALID`. -/
  | invalid
  /-- `C_DECERR`. -/
  | decErr
  /-- `C_FLAGS`: the fourth branch was taken, with zero or more flags (rule R188). -/
  | flags
  deriving DecidableEq, Repr

/-- The `CLASS` codes of rule R17. -/
def classCode : ClassCode → BitVec 3
  | .none => 0
  | .clean => 1
  | .invalid => 2
  | .decErr => 3
  | .flags => 4

/-- The twelve flags, in the order of the rows of rule R182. -/
inductive FlagBit where
  | authExFailure
  | authExNoTable
  | authExReserved
  | invalidDvdGeometry
  | invalidDvdDmi
  | dvdKeyvaultPairMismatch
  | crlDataInvalid
  | crlCertificateRevoked
  | unauthorizedInstall
  | keyvaultPolicyViolation
  | consoleBanned
  | oddViolation
  deriving DecidableEq, Repr

/-- `FLAG_BASE` (rule R5, by spec/90_conflicts.md C1): the bit of the first row of the flag table. -/
def flagBase : Nat := 0

/-- The row number `n`, 1 to 12, of a flag in the source's table (rule R182). -/
def flagRow : FlagBit → Nat
  | .authExFailure => 1
  | .authExNoTable => 2
  | .authExReserved => 3
  | .invalidDvdGeometry => 4
  | .invalidDvdDmi => 5
  | .dvdKeyvaultPairMismatch => 6
  | .crlDataInvalid => 7
  | .crlCertificateRevoked => 8
  | .unauthorizedInstall => 9
  | .keyvaultPolicyViolation => 10
  | .consoleBanned => 11
  | .oddViolation => 12

/-- The bit of `lo` and of `MSGV` at which a flag sits: `FLAG_BASE + n − 1` (rules R5 and R182). -/
def flagPosition (f : FlagBit) : Nat := flagBase + flagRow f - 1

/-- `highBits`, plaintext bytes 0 to 3 (rule R180). -/
def highBits (pt : Word64) : Word32 := pt.extractLsb' 32 32

/-- `lowBits`, plaintext bytes 4 to 7 (rule R180). -/
def lowBits (pt : Word64) : Word32 := pt.extractLsb' 0 32

/-- `UNKNOWN_MASK` (rule R5, by spec/90_conflicts.md C2). -/
def unknownMask : Word32 := 0xFFFF8000

/-- `Unknown(lo)` (rule R183): some bit from 15 to 31 is set; bits 12, 13 and 14 are silent. -/
def unknownViolation (lo : Word32) : Bool := lo &&& unknownMask != 0

/-- `FlagVector(lo)` (rule R184): the twelve flags, and bit 12 for the unknown violation. -/
def flagVector (lo : Word32) : Word16 :=
  (lo &&& 0x0FFF).setWidth 16 ||| (if unknownViolation lo then 0x1000 else 0)

/-- `Classify` (rule R181), in its priority order. -/
def classify (pt : Word64) : BitVec 3 × Word16 :=
  let hi := highBits pt
  let lo := lowBits pt
  if lo = 0 ∧ hi = 0 then (classCode .clean, 0x2000)
  else if lo = 0xFFFFFFFF ∧ hi = 0xFFFFFFFF then (classCode .invalid, 0x4000)
  else if lo ≠ 0 ∧ hi ≠ 0 then (classCode .decErr, 0x8000)
  else (classCode .flags, flagVector lo)

/-- CLS while `ERR = 0` (rule R187). -/
def classifyPlaintext (s : State) : State :=
  if s.pv then { s with cls := (classify s.pt).1, msgv := (classify s.pt).2, cv := true }
  else failWith .pLen s

/-- CLS (rules R187 and R203). -/
def execCls (s : State) : Host.Outcome State Fault Refusal := .next (unlessError classifyPlaintext s)

end Sys2Proof.Machine
end

