-- ==== Sys2Proof/Machine/Des.lean ====
section
/-! DEFINITION. DES on one block (spec/42_des_decrypt.md rules R131, R137, R141 to R143). The spec marks these rules as
general knowledge, not in its source; the model takes them as they are written (notes/assumptions/8.md). -/

namespace Sys2Proof.Machine

/-- DES bit `j` of an n-bit word, `v[n − j]` (rules R6 and R131). -/
def dbit {n : Nat} (v : BitVec n) (j : Nat) : Bool := v.getLsbD (n - j)

/-- `Perm(T, x)` of rule R131: DES bit `i` of the result is DES bit `T[i]` of `x`. The bits are shifted in one at a
time, the first entry's first, so that it ends as DES bit 1 of an m-bit result for a table of `m` entries. -/
def perm {n : Nat} (m : Nat) (table : List Nat) (x : BitVec n) : BitVec m :=
  table.foldl (fun acc j => (acc <<< 1) ||| (BitVec.ofBool (dbit x j)).setWidth m) 0

/-- One substitution box (rule R136): the outer two bits `b1`, `b6` of the input select the row, the inner four the
column. -/
def sBox (table : List Nat) (v : BitVec 6) : BitVec 4 :=
  let row := 2 * (v.extractLsb' 5 1).toNat + (v.extractLsb' 0 1).toNat
  let column := (v.extractLsb' 1 4).toNat
  BitVec.ofNat 4 (table.getD (16 * row + column) 0)

/-- The eight boxes on the eight 6-bit groups `g1` (most significant) to `g8`, their outputs joined with `S1`'s most
significant (rule R137). -/
def substitute (x : BitVec 48) : BitVec 32 :=
  sBox tableS1 (x.extractLsb' 42 6) ++ sBox tableS2 (x.extractLsb' 36 6)
    ++ sBox tableS3 (x.extractLsb' 30 6) ++ sBox tableS4 (x.extractLsb' 24 6)
    ++ sBox tableS5 (x.extractLsb' 18 6) ++ sBox tableS6 (x.extractLsb' 12 6)
    ++ sBox tableS7 (x.extractLsb' 6 6) ++ sBox tableS8 (x.extractLsb' 0 6)

/-- The round function `F` (rule R137). -/
def desF (r : Word32) (k : BitVec 48) : Word32 :=
  perm 32 tableP (substitute (perm 48 tableE r ^^^ k))

/-- `rotl28(v, s)` (rule R141). -/
def rotl28 (v : BitVec 28) (s : Nat) : BitVec 28 := (v <<< s) ||| (v >>> (28 - s))

/-- The subkeys of the rounds whose shifts are given, from the halves `C` and `D` (rule R141). -/
def subKeysFrom : List Nat → BitVec 28 → BitVec 28 → List (BitVec 48)
  | [], _, _ => []
  | n :: ns, c, d =>
    perm 48 tablePC2 (rotl28 c n ++ rotl28 d n) :: subKeysFrom ns (rotl28 c n) (rotl28 d n)

/-- `SubKeys(key)`: `K[1]` to `K[16]` (rule R141). -/
def subKeys (key : Word64) : List (BitVec 48) :=
  let cd := perm 56 tablePC1 key
  subKeysFrom tableShifts (cd.extractLsb' 28 28) (cd.extractLsb' 0 28)

/-- The Feistel rounds in the order of the subkeys given: `(L, R) = (R, L ^ F(R, K))` (rule R142). -/
def desRounds : List (BitVec 48) → Word32 × Word32 → Word32 × Word32
  | [], lr => lr
  | k :: ks, (l, r) => desRounds ks (r, l ^^^ desF r k)

/-- The network of rule R142 with its subkeys in the order given: `IP`, the rounds, the halves joined as `R ‖ L`, and
`FP`. -/
def desNetwork (ks : List (BitVec 48)) (block : Word64) : Word64 :=
  let ip := perm 64 tableIP block
  let lr := desRounds ks (ip.extractLsb' 32 32, ip.extractLsb' 0 32)
  perm 64 tableFP (lr.2 ++ lr.1)

/-- `DesDec` (rules R130 and R142): the network with `K16` first and `K1` last. -/
def desDec (key block : Word64) : Word64 := desNetwork (subKeys key).reverse block

/-- `DesEnc` (rule R143), for reference only: no command computes it. -/
def desEnc (key block : Word64) : Word64 := desNetwork (subKeys key) block

end Sys2Proof.Machine
end

