-- ==== Sys2Proof/Machine/Decryptor.lean ====
section
/-! DEFINITION. The block decryptor: the keys the cipher refuses (spec/42_des_decrypt.md rule R144) and the command DEC
(rule R145). -/

namespace Sys2Proof.Machine

/-- The key agrees with the pattern in every bit the pattern's mask selects. -/
def keyMatches (p : KeyPattern) (k : Word64) : Bool := k &&& p.mask == p.value &&& p.mask

/-- `RejectKey` (rule R144): some pattern of the configuration covers the key. -/
def rejectKey (c : Config) (k : Word64) : Bool := c.rejects.any (keyMatches · k)

/-- DEC while `ERR = 0` (rule R145): the three tests in their order, then the decryption. -/
def decryptBlock (s : State) : State :=
  if !s.xvalid then failWith .xval s
  else if !s.kv then failWith .noKey s
  else if rejectKey s.cfg s.key then failWith .crypto s
  else loadPlaintext (desDec s.key s.ct) s

/-- DEC (rules R145 and R203). -/
def execDec (s : State) : Host.Outcome State Fault Refusal := .next (unlessError decryptBlock s)

end Sys2Proof.Machine
end

