-- ==== Sys2Proof/Machine/Sha1.lean ====
section
/-! DEFINITION. SHA-1 (spec/41_kdf_hmac_sha1.md rules R102 to R107). The spec marks these rules as general knowledge,
not in its source; the model takes them as they are written (notes/assumptions/8.md). -/

namespace Sys2Proof.Machine

/-- The five chaining words, and the five working variables `a` to `e` (rule R106). -/
structure Sha1Words where
  /-- Word 0, working variable `a`. -/
  a : Word32
  /-- Word 1, working variable `b`. -/
  b : Word32
  /-- Word 2, working variable `c`. -/
  c : Word32
  /-- Word 3, working variable `d`. -/
  d : Word32
  /-- Word 4, working variable `e`. -/
  e : Word32
  deriving DecidableEq, Repr

/-- The initial hash value `H0` (rule R103). -/
def sha1Init : Sha1Words :=
  { a := 0x67452301, b := 0xEFCDAB89, c := 0x98BADCFE, d := 0x10325476, e := 0xC3D2E1F0 }

/-- The round function `f(t, b, c, d)` (rule R102): choose, parity, majority, parity. -/
def sha1F (t : Nat) (b c d : Word32) : Word32 :=
  if t ≤ 19 then (b &&& c) ||| (~~~b &&& d)
  else if t ≤ 39 then b ^^^ c ^^^ d
  else if t ≤ 59 then (b &&& c) ||| (b &&& d) ||| (c &&& d)
  else b ^^^ c ^^^ d

/-- The round constant `K(t)` (rule R103). -/
def sha1K (t : Nat) : Word32 :=
  if t ≤ 19 then 0x5A827999
  else if t ≤ 39 then 0x6ED9EBA1
  else if t ≤ 59 then 0x8F1BBCDC
  else 0xCA62C1D6

/-- `rotl32(v, n) = ((v << n) | (v >> (32 − n))) mod 2^32` (rule R102). -/
def rotl32 (v : Word32) (n : Nat) : Word32 := (v <<< n) ||| (v >>> (32 - n))

/-- The sixteen big-endian words of a 64-byte block: `W[t] = BE(M[4t .. 4t+3])` (rule R104). -/
def sha1BlockWords (block : List Byte) : List Word32 :=
  (List.range 16).map fun t => BitVec.ofNat 32 (beNat ((block.drop (4 * t)).take 4))

/-- `n` further schedule words on a schedule that is held newest first: `W[t−3]`, `W[t−8]`, `W[t−14]`, `W[t−16]` are
the entries 2, 7, 13 and 15, and the new word is their exclusive or rotated by 1 (rule R104). -/
def sha1Extend : Nat → List Word32 → List Word32
  | 0, newestFirst => newestFirst
  | n + 1, newestFirst =>
    sha1Extend n
      (rotl32 (newestFirst.getD 2 0 ^^^ newestFirst.getD 7 0 ^^^ newestFirst.getD 13 0
        ^^^ newestFirst.getD 15 0) 1 :: newestFirst)

/-- The message schedule of a block, `W[0]` to `W[79]` (rule R104). -/
def sha1Schedule (block : List Byte) : List Word32 :=
  (sha1Extend 64 (sha1BlockWords block).reverse).reverse

/-- One round (rule R106): `(a, b, c, d, e) := (T, a, rotl32(b, 30), c, d)`. -/
def sha1Round (t : Nat) (w : Word32) (v : Sha1Words) : Sha1Words :=
  { a := rotl32 v.a 5 + sha1F t v.b v.c v.d + v.e + sha1K t + w
    b := v.a
    c := rotl32 v.b 30
    d := v.c
    e := v.d }

/-- The rounds from round `t` on, one for each word of the schedule that is left (rule R106). -/
def sha1Rounds : Nat → List Word32 → Sha1Words → Sha1Words
  | _, [], v => v
  | t, w :: ws, v => sha1Rounds (t + 1) ws (sha1Round t w v)

/-- `Sha1Compress` (rule R106). -/
def sha1Compress (h : Sha1Words) (block : List Byte) : Sha1Words :=
  let v := sha1Rounds 0 (sha1Schedule block) h
  { a := h.a + v.a, b := h.b + v.b, c := h.c + v.c, d := h.d + v.d, e := h.e + v.e }

/-- `z = (55 − n) mod 64`, the number of zero bytes of the padding (rule R105). -/
def sha1PadZeros (n : Nat) : Nat := ((55 - (n : Int)) % 64).toNat

/-- `Sha1Pad` (rule R105): the message, `0x80`, the zeros, and the length in bits as eight big-endian bytes. -/
def sha1Pad (m : List Byte) : List Byte :=
  m ++ 0x80 :: (List.replicate (sha1PadZeros m.length) 0 ++ beBytes 8 (8 * m.length))

/-- `n` successive 64-byte blocks of a padded message (rule R107). -/
def sha1Blocks : Nat → List Byte → Sha1Words → Sha1Words
  | 0, _, h => h
  | n + 1, p, h => sha1Blocks n (p.drop 64) (sha1Compress h (p.take 64))

/-- The twenty bytes of the five words (rule R107). -/
def sha1Digest (h : Sha1Words) : List Byte :=
  beBytes 4 h.a.toNat ++ beBytes 4 h.b.toNat ++ beBytes 4 h.c.toNat ++ beBytes 4 h.d.toNat
    ++ beBytes 4 h.e.toNat

/-- `Sha1` (rule R107). -/
def sha1 (m : List Byte) : List Byte :=
  sha1Digest (sha1Blocks ((sha1Pad m).length / 64) (sha1Pad m) sha1Init)

end Sys2Proof.Machine
end

