-- ==== Sys2Proof/Machine/KeyDerivation.lean ====
section
/-! DEFINITION. The key derivation block: HMAC-SHA1, `Kdf` and the command KDF (spec/41_kdf_hmac_sha1.md rules R100,
R101, R108 to R112). -/

namespace Sys2Proof.Machine

/-- `KDF_MESSAGE`, the ten ASCII bytes of `XBOX360SSB` (rule R101). -/
def kdfMessage : List Byte := [0x58, 0x42, 0x4F, 0x58, 0x33, 0x36, 0x30, 0x53, 0x53, 0x42]

/-- The block size of HMAC over SHA-1, 64 bytes (rule R108). -/
def hmacBlockSize : Nat := 64

/-- `K0` of rule R109: the key, hashed first when it is longer than a block, filled with zeros to 64 bytes. -/
def hmacKeyBlock (key : List Byte) : List Byte :=
  let k := if key.length > hmacBlockSize then sha1 key else key
  k ++ List.replicate (hmacBlockSize - k.length) 0

/-- Each byte of the key block exclusive-or'd with a pad byte (rule R109). -/
def hmacPad (pad : Byte) (key : List Byte) : List Byte := (hmacKeyBlock key).map (· ^^^ pad)

/-- `HmacSha1` (rule R109). -/
def hmacSha1 (key msg : List Byte) : List Byte :=
  sha1 (hmacPad 0x5C key ++ sha1 (hmacPad 0x36 key ++ msg))

/-- `Kdf` (rule R100): the first eight bytes of the HMAC of `XBOX360SSB` keyed by the serial, as one big-endian word. -/
def kdf (ser : Vector Byte 12) : Word64 :=
  BitVec.ofNat 64 (beNat ((hmacSha1 ser.toList kdfMessage).take keyLen))

/-- `I1` and `O1` of rule R110: the serial bytes exclusive-or'd with the pad byte, then 52 pad bytes. -/
def kdfKeyBlock (pad : Byte) (ser : Vector Byte 12) : List Byte :=
  ser.toList.map (· ^^^ pad) ++ List.replicate 52 pad

/-- `I2` of rule R110, a constant. -/
def kdfInnerBlock : List Byte :=
  kdfMessage ++ [0x80] ++ List.replicate 45 0 ++ [0, 0, 0, 0, 0, 0, 0x02, 0x50]

/-- `O2` of rule R110: the inner digest, `0x80`, 35 zeros and the length of 672 bits. -/
def kdfOuterBlock (inner : Sha1Words) : List Byte :=
  sha1Digest inner ++ [0x80] ++ List.replicate 35 0 ++ [0, 0, 0, 0, 0, 0, 0x02, 0xA0]

/-- The fixed shape of the derivation (rule R110): four compressions, and the first two words of the last. -/
def kdfFourBlocks (ser : Vector Byte 12) : Word64 :=
  let hi := sha1Compress (sha1Compress sha1Init (kdfKeyBlock 0x36 ser)) kdfInnerBlock
  let ho := sha1Compress (sha1Compress sha1Init (kdfKeyBlock 0x5C ser)) (kdfOuterBlock hi)
  ho.a ++ ho.b

/-- KDF while `ERR = 0` (rule R112). -/
def deriveKey (s : State) : State :=
  if s.svalid then loadKey (kdf s.ser) s else failWith .serial s

/-- KDF (rules R112 and R203). -/
def execKdf (s : State) : Host.Outcome State Fault Refusal := .next (unlessError deriveKey s)

end Sys2Proof.Machine
end

