-- ==== Sys2Proof/Machine/Control.lean ====
section
/-! DEFINITION. The composite DECRYPT and the control commands NOP and CLR (spec/43_decrypt_control.md rules R160, R162
and R163). -/

namespace Sys2Proof.Machine

/-- DECRYPT while `ERR = 0` (rule R160): the xval is judged first, then the serial, then the derived key; the local key
`k` is written to `KEY` only on success. -/
def deriveAndDecrypt (s : State) : State :=
  if !s.xvalid then failWith .xval s
  else if !s.svalid then failWith .serial s
  else
    let k := kdf s.ser
    if rejectKey s.cfg k then failWith .crypto s
    else loadPlaintext (desDec k s.ct) (loadKey k s)

/-- DECRYPT (rules R160 and R203). -/
def execDecrypt (s : State) : Host.Outcome State Fault Refusal := .next (unlessError deriveAndDecrypt s)

/-- NOP (rule R162): no state change, in any state. -/
def execNop (s : State) : Host.Outcome State Fault Refusal := .next s

/-- CLR (rule R163): the only command that acts while `ERR ≠ 0`, and it acts the same way in every state. -/
def execClr (s : State) : Host.Outcome State Fault Refusal := .next (clearUnit s)

end Sys2Proof.Machine
end

