-- ==== Sys2Proof/Machine/FrontEnd.lean ====
section
/-! DEFINITION. The operand front end: PUSHS, PUSHX and PUSHP (spec/40_frontend_operands.md rules R81 to R83). -/

namespace Sys2Proof.Machine

/-- The serial buffer after one more byte: `if SCNT < 12 then SER[SCNT] <- b` (rule R81). -/
def storeSerialByte (b : Byte) (scnt : Byte) (ser : Vector Byte 12) : Vector Byte 12 :=
  if h : scnt.toNat < 12 then ser.set scnt.toNat b h else ser

/-- PUSHS while `ERR = 0` (rule R81). -/
def pushSerialByte (b : Byte) (s : State) : State :=
  { s with ser := storeSerialByte b s.scnt s.ser, scnt := satSucc s.scnt, key := 0, kv := false }

/-- The ciphertext after one more hexadecimal digit: `CT <- ((CT << 4) | h) mod 2^64` while `XCNT < 16`
(rule R82); a character that is no digit shifts nothing. -/
def shiftNibble (h : Option (BitVec 4)) (xcnt : Byte) (ct : Word64) : Word64 :=
  match h with
  | some d => if xcnt.toNat < xvalNibbles then (ct <<< 4) ||| d.setWidth 64 else ct
  | none => ct

/-- PUSHX while `ERR = 0` (rule R82): a dash changes nothing; any other character is counted, a digit is shifted in,
and a character that is no digit sets `XBAD`. -/
def pushXvalChar (c : Byte) (s : State) : State :=
  if c = dash then s
  else
    { s with
      ct := shiftNibble (hexVal c) s.xcnt s.ct
      xbad := s.xbad || (hexVal c).isNone
      xcnt := satSucc s.xcnt }

/-- PUSHP while `ERR = 0` (rule R83): `PT` takes the byte in at its low end, `PV <- (n = 8)` for the new count, and the
classification is discarded. -/
def pushPlainByte (b : Byte) (s : State) : State :=
  clearClassification
    { s with
      pt := (s.pt <<< 8) ||| b.setWidth 64
      pcnt := satSucc s.pcnt
      pv := (satSucc s.pcnt).toNat == blockLen }

/-- PUSHS (rules R81 and R203). -/
def execPushs (b : Byte) (s : State) : Host.Outcome State Fault Refusal :=
  .next (unlessError (pushSerialByte b) s)

/-- PUSHX (rules R82 and R203). -/
def execPushx (c : Byte) (s : State) : Host.Outcome State Fault Refusal :=
  .next (unlessError (pushXvalChar c) s)

/-- PUSHP (rules R83 and R203). -/
def execPushp (b : Byte) (s : State) : Host.Outcome State Fault Refusal :=
  .next (unlessError (pushPlainByte b) s)

end Sys2Proof.Machine
end

