-- ==== Sys2Proof/Machine/Dispatch.lean ====
section
/-! DEFINITION. One arm per command: the direct call of its meaning (spec/30_encoding.md rule R63). -/

namespace Sys2Proof.Machine

/-- The whole effect of one command, the error-state gate of spec/60_exceptions.md rule R203 included. -/
def exec (i : Instr) (s : State) : Host.Outcome State Fault Refusal :=
  match i with
  | .nop => Sys2Proof.Machine.execNop s
  | .clr => Sys2Proof.Machine.execClr s
  | .pushs b => Sys2Proof.Machine.execPushs b s
  | .pushx c => Sys2Proof.Machine.execPushx c s
  | .pushp b => Sys2Proof.Machine.execPushp b s
  | .kdf => Sys2Proof.Machine.execKdf s
  | .dec => Sys2Proof.Machine.execDec s
  | .cls => Sys2Proof.Machine.execCls s
  | .decrypt => Sys2Proof.Machine.execDecrypt s

end Sys2Proof.Machine
end

