-- ==== Sys2Proof/Machine/Port.lean ====
section
/-! DEFINITION. The host's side: the command port (spec/30_encoding.md rules R60 and R63), the reset input
(spec/70_reset_and_hazards.md rule R230), and a run of command words (rule R237). -/

namespace Sys2Proof.Machine

/-- One command word written to the port: `Step(state, w)` of rule R63. -/
def takeCommand (w : Word16) (s : State) : Host.Outcome State Fault Refusal :=
  match decode w with
  | .ok i => exec i s
  | .error _ => illegalCommand s

/-- One event of the host. While reset is asserted "no command is accepted"; asserting it puts the unit in the reset
state, at any time; releasing it changes nothing else (rule R230). DESIGN CHOICE (notes/assumptions/2.md): a word
written while reset is asserted is lost. -/
def takeEvent (e : HostEvent) (s : State) : Host.Outcome State Fault Refusal :=
  match e with
  | .command w => if s.resetLine then .next s else takeCommand w s
  | .assertReset => .next { clearUnit s with resetLine := true }
  | .releaseReset => .next { s with resetLine := false }

/-- The host's next event is taken out of the waiting events and takes effect whole; with none waiting the unit "does
nothing until the next word" (rules R46 and R237). -/
def takeNext (s : State) : Host.Outcome State Fault Refusal :=
  match s.inputs with
  | [] => .next s
  | e :: rest => takeEvent e { s with inputs := rest }

/-- A run of rule R237: a finite list of command words applied in order to a start state. -/
def runWords : List Word16 → State → Host.Outcome State Fault Refusal
  | [], s => .next s
  | w :: ws, s =>
    match takeCommand w s with
    | .next s' => runWords ws s'
    | .fault r => .fault r
    | .refused r => .refused r

/-- The run of a list of commands, each written as its word. -/
def runCommands (is : List Instr) (s : State) : Host.Outcome State Fault Refusal :=
  runWords (is.map encode) s

/-- The host decides to write these words after whatever it already means to do. -/
def queueWords (ws : List Word16) (s : State) : State :=
  { s with inputs := s.inputs ++ ws.map HostEvent.command }

/-- The 16-bit command word of a table word of `nbits` bits; the bits above `nbits` are zero (rule R60). -/
def tableCommandWord (nbits w : Nat) : Word16 := BitVec.ofNat 16 (w % 2 ^ nbits)

/-- The host writes the word before anything else, with the reset input released. -/
def writeFirst (w : Word16) (s : State) : State :=
  { s with inputs := HostEvent.command w :: s.inputs, resetLine := false }

end Sys2Proof.Machine
end

