-- ==== Sys2Proof/Machine/Step.lean ====
section
/-! DEFINITION. One step of the machine: the host's next event takes effect (spec/20_memory.md rule R46). The unit has no
program counter and fetches nothing (spec/10_state.md rule R30); the word it executes is the one the host writes. -/

namespace Sys2Proof.Machine

/-- One step. -/
def step (s : State) : Host.Outcome State Fault Refusal := takeNext s

/-- The state in which the very next step executes the given table word: it is the host's next write to the command
port, and the reset input is released so that the write is accepted (notes/assumptions/1.md). -/
def State.withFetchWord (s : State) (nbits w : Nat) : State := writeFirst (tableCommandWord nbits w) s

end Sys2Proof.Machine
end

