-- ==== Sys2Proof/Machine/Assembler.lean ====
section
/-! DEFINITION. The command scripts of spec/30_encoding.md rules R66 and R67: statements, the words they assemble to, and
their text. The assembler stands outside the unit; what it emits are the words the host writes to the command port.
Where rule R66 leaves a detail of the text open the choice is listed in notes/assumptions/11.md. -/

namespace Sys2Proof.Machine

/-- The three commands that take an operand (rule R66). -/
inductive PushKind where
  | serial
  | xval
  | plain
  deriving DecidableEq, Repr

/-- One statement of a script (rules R66 and R67). Numbers and character codes are as the text has them; whether they
fit is `Statement.wellFormed`. -/
inductive Statement where
  /-- A mnemonic without operand. -/
  | bare (i : Instr)
  /-- PUSHS, PUSHX or PUSHP with its operand. -/
  | push (kind : PushKind) (n : Nat)
  /-- `WORD n`: the 16-bit word as it is. -/
  | word (n : Nat)
  /-- `SERIAL "s"`. -/
  | serialText (s : List Nat)
  /-- `XVALTXT "s"`. -/
  | xvalText (s : List Nat)
  /-- `PLAIN h`: the values of the hexadecimal digits. -/
  | plainDigits (digits : List Nat)
  /-- `XVAL "serial", "xval"`. -/
  | xvalPair (serial xval : List Nat)
  deriving DecidableEq, Repr

/-- The command has no operand. -/
def takesNoOperand : Instr → Bool
  | .nop => true
  | .clr => true
  | .pushs _ => false
  | .pushx _ => false
  | .pushp _ => false
  | .kdf => true
  | .dec => true
  | .cls => true
  | .decrypt => true

/-- The ranges of rules R66 and R67: operands 0 to 255, words of 16 bits, strings of bytes, `2n` digits. -/
def Statement.wellFormed : Statement → Bool
  | .bare i => takesNoOperand i
  | .push _ n => decide (n ≤ 255)
  | .word n => decide (n < 65536)
  | .serialText s => s.all fun c => decide (c ≤ 255)
  | .xvalText s => s.all fun c => decide (c ≤ 255)
  | .plainDigits ds => (ds.all fun d => decide (d < 16)) && ds.length % 2 == 0
  | .xvalPair s x => (s ++ x).all fun c => decide (c ≤ 255)

/-- The command of a push statement. -/
def pushCommand (kind : PushKind) (b : Byte) : Instr :=
  match kind with
  | .serial => .pushs b
  | .xval => .pushx b
  | .plain => .pushp b

/-- The commands that push a string, byte by byte (rule R67). -/
def pushAll (kind : PushKind) (s : List Nat) : List Instr :=
  s.map fun c => pushCommand kind (BitVec.ofNat 8 c)

/-- The bytes of `2n` hexadecimal digits, two digits a byte, the high nibble first (rules R42 and R67). -/
def digitPairs : List Nat → List Nat
  | h :: l :: rest => (16 * h + l) :: digitPairs rest
  | _ => []

/-- `XVAL "serial", "xval"`: "the whole of the source's decrypt then interpret" (rule R67), which is also the
recommended transaction of spec/70_reset_and_hazards.md rule R234 without its closing CLR. -/
def transaction (serial xval : List Nat) : List Instr :=
  .clr :: (pushAll .serial serial ++ pushAll .xval xval ++ [.decrypt, .cls])

/-- The words of a statement (rules R66 and R67). -/
def Statement.words : Statement → List Word16
  | .bare i => [encode i]
  | .push kind n => [encode (pushCommand kind (BitVec.ofNat 8 n))]
  | .word n => [BitVec.ofNat 16 n]
  | .serialText s => (pushAll .serial s).map encode
  | .xvalText s => (pushAll .xval s).map encode
  | .plainDigits ds => (pushAll .plain (digitPairs ds)).map encode
  | .xvalPair s x => (transaction s x).map encode

/-- The words of a script, or nothing where a statement is ill-formed. -/
def assemble : List Statement → Option (List Word16)
  | [] => some []
  | st :: rest => if st.wellFormed then (assemble rest).map (st.words ++ ·) else none

/-- The character codes of a text. -/
def codes (text : String) : List Nat := text.toList.map Char.toNat

/-- A blank: space, tab, or the carriage return of a line end. -/
def isBlank (c : Nat) : Bool := c == 0x20 || c == 0x09 || c == 0x0D

/-- The text without the blanks around it. -/
def trimBlanks (cs : List Nat) : List Nat := ((cs.dropWhile isBlank).reverse.dropWhile isBlank).reverse

/-- The line without its comment. DESIGN CHOICE (notes/assumptions/11.md): a `;` starts no comment inside a string, nor
as the one character between two single quotes; three characters whose first and last are a single quote stand together,
so `'''` is the quote character itself and a comment may follow it, and any other single quote opens nothing. The first
argument says whether a string in double quotes is open. -/
def dropComment : Bool → List Nat → List Nat
  | _, [] => []
  | true, c :: cs => c :: dropComment (c != 0x22) cs
  | false, 0x27 :: c :: 0x27 :: cs => 0x27 :: c :: 0x27 :: dropComment false cs
  | false, c :: cs => if c = 0x3B then [] else c :: dropComment (c == 0x22) cs

/-- The value of a hexadecimal digit character. -/
def digitValue (c : Nat) : Option Nat :=
  if c < 256 then (hexVal (BitVec.ofNat 8 c)).map BitVec.toNat else none

/-- The digits of a text, each below the base; an empty text has none. -/
def digitsBelow (base : Nat) (cs : List Nat) : Option (List Nat) :=
  if cs.isEmpty then none
  else cs.mapM fun c => (digitValue c).bind fun d => if d < base then some d else none

/-- The text after the prefix `0x`, where it has it. -/
def afterHexPrefix : List Nat → Option (List Nat)
  | 0x30 :: 0x78 :: rest => some rest
  | _ => none

/-- The number a list of digits spells. -/
def digitsValue (base : Nat) (ds : List Nat) : Nat := ds.foldl (fun acc d => base * acc + d) 0

/-- A number: `0x` and hexadecimal digits, or decimal digits (rule R66). -/
def parseNumber (cs : List Nat) : Option Nat :=
  match afterHexPrefix cs with
  | some rest => (digitsBelow 16 rest).map (digitsValue 16)
  | none => (digitsBelow 10 cs).map (digitsValue 10)

/-- A push operand: a number, or one printable ASCII character in single quotes (rule R66). DESIGN CHOICE
(notes/assumptions/11.md): the quote character is no exception, it is written `'''`; the space counts as printable. -/
def parseOperand : List Nat → Option Nat
  | [0x27, c, 0x27] => if 0x20 ≤ c ∧ c ≤ 0x7E then some c else none
  | cs => parseNumber cs

/-- A string in double quotes at the start of the text, and the text after it. DESIGN CHOICE (notes/assumptions/11.md):
no escapes, so a string ends at the next double quote and holds none. -/
def parseString : List Nat → Option (List Nat × List Nat)
  | 0x22 :: rest =>
    match rest.dropWhile (· != 0x22) with
    | _ :: after => some (rest.takeWhile (· != 0x22), after)
    | [] => none
  | _ => none

/-- A string and nothing after it. -/
def parseWholeString (cs : List Nat) : Option (List Nat) :=
  match parseString cs with
  | some (s, []) => some s
  | _ => none

/-- Two strings with a comma between them (rule R67, `XVAL`). -/
def parseStringPair (cs : List Nat) : Option Statement :=
  match parseString cs with
  | some (s, rest) =>
    match trimBlanks rest with
    | 0x2C :: more => (parseWholeString (trimBlanks more)).map (Statement.xvalPair s)
    | _ => none
  | none => none

/-- A mnemonic without operand (rules R62 and R66). -/
def parseBare (name : List Nat) : Option Statement :=
  if name = codes "NOP" then some (.bare .nop)
  else if name = codes "CLR" then some (.bare .clr)
  else if name = codes "KDF" then some (.bare .kdf)
  else if name = codes "DEC" then some (.bare .dec)
  else if name = codes "CLS" then some (.bare .cls)
  else if name = codes "DECRYPT" then some (.bare .decrypt)
  else none

/-- A mnemonic and its operand (rules R66 and R67). -/
def parseWithOperand (name operand : List Nat) : Option Statement :=
  if name = codes "PUSHS" then (parseOperand operand).map (.push .serial)
  else if name = codes "PUSHX" then (parseOperand operand).map (.push .xval)
  else if name = codes "PUSHP" then (parseOperand operand).map (.push .plain)
  else if name = codes "WORD" then (parseNumber operand).map .word
  else if name = codes "SERIAL" then (parseWholeString operand).map .serialText
  else if name = codes "XVALTXT" then (parseWholeString operand).map .xvalText
  else if name = codes "PLAIN" then
    (digitsBelow 16 ((afterHexPrefix operand).getD operand)).map .plainDigits
  else if name = codes "XVAL" then parseStringPair operand
  else none

/-- One line that is not blank: a mnemonic, and what follows it (rule R66). -/
def parseStatement (line : List Nat) : Option Statement :=
  let operand := trimBlanks (line.dropWhile fun c => !isBlank c)
  let name := line.takeWhile fun c => !isBlank c
  if operand.isEmpty then parseBare name else parseWithOperand name operand

/-- The lines of a text. -/
def splitLines : List Nat → List (List Nat)
  | [] => [[]]
  | c :: cs =>
    match splitLines cs with
    | [] => [[]]
    | line :: lines => if c = 0x0A then [] :: line :: lines else (c :: line) :: lines

/-- The statements of a script: one a line, comments and blank lines left out (rule R66); nothing where a line is no
statement. -/
def parseScript (text : List Nat) : Option (List Statement) :=
  (((splitLines text).map fun line => trimBlanks (dropComment false line)).filter fun line => !line.isEmpty).mapM
    parseStatement

/-- The words of a script text (rules R66 and R67). -/
def assembleText (text : String) : Option (List Word16) := (parseScript (codes text)).bind assemble

end Sys2Proof.Machine
end

