-- ==== Sys2Proof/Machine/Platform.lean ====
section
/-! DEFINITION. Several units on one platform (spec/20_memory.md rule R49 and spec/60_exceptions.md rule R211): they share
no state, so a platform is a list of units, and one of them steps at a time. -/

namespace Sys2Proof.Machine

/-- The units of a platform. -/
abbrev Platform := List State

/-- The state an outcome leaves: the next state, and the old one where the step stops. -/
def stateAfter (old : State) : Host.Outcome State Fault Refusal → State
  | .next s => s
  | .fault _ => old
  | .refused _ => old

/-- Unit `k` takes one step (rules R49 and R211). -/
def stepUnit (k : Nat) (p : Platform) : Platform := p.modify k fun s => stateAfter s (step s)

/-- The units named take a step each, in the order given (rule R49). -/
def stepUnits (ks : List Nat) (p : Platform) : Platform := ks.foldl (fun q k => stepUnit k q) p

end Sys2Proof.Machine
end

