-- ==== Sys2Proof/Machine/MessageRom.lean ====
section
/-! DEFINITION. The message ROM and the output list (spec/44_flag_classifier.md rules R185 and R186): sixteen read-only
strings, the same in every unit and in every state, during reset too (spec/70_reset_and_hazards.md rule R232). -/

namespace Sys2Proof.Machine

/-- The bytes of the sixteen messages as rule R185 prints them: the length, and the bytes as one big-endian number. -/
def romRow : BitVec 4 → Nat × Nat
  -- AuthEx challenge failure (AP 2.5 related)
  | 0 => (41, 0x417574684578206368616C6C656E6765206661696C7572652028415020322E352072656C6174656429)
  -- AuthEx table missing (AP 2.5 related)
  | 1 => (37, 0x417574684578207461626C65206D697373696E672028415020322E352072656C6174656429)
  -- AuthEx reserved flag (AP 2.5 related)
  | 2 => (37, 0x41757468457820726573657276656420666C61672028415020322E352072656C6174656429)
  -- Invalid DVD geometry
  | 3 => (20, 0x496E76616C6964204456442067656F6D65747279)
  -- Invalid DVD DMI
  | 4 => (15, 0x496E76616C69642044564420444D49)
  -- Invalid CRL data
  | 5 => (16, 0x496E76616C69642043524C2064617461)
  -- CRL certificate revoked
  | 6 => (23, 0x43524C206365727469666963617465207265766F6B6564)
  -- CRL certificate revoked
  | 7 => (23, 0x43524C206365727469666963617465207265766F6B6564)
  -- Unauthorized install
  | 8 => (20, 0x556E617574686F72697A656420696E7374616C6C)
  -- Keyvault policy violation
  | 9 => (25, 0x4B65797661756C7420706F6C6963792076696F6C6174696F6E)
  -- Console is banned
  | 10 => (17, 0x436F6E736F6C652069732062616E6E6564)
  -- ODD violation
  | 11 => (13, 0x4F44442076696F6C6174696F6E)
  -- Unknown violation(s)
  | 12 => (20, 0x556E6B6E6F776E2076696F6C6174696F6E287329)
  -- Secdata is clean
  | 13 => (16, 0x5365636461746120697320636C65616E)
  -- Secdata is invalid
  | 14 => (18, 0x5365636461746120697320696E76616C6964)
  -- Secdata decryption error
  | _ => (24, 0x536563646174612064656372797074696F6E206572726F72)

/-- `MSGLEN(i)`, 6 bits (rules R44 and R185). -/
def msgLen (i : BitVec 4) : BitVec 6 := BitVec.ofNat 6 (romRow i).1

/-- Message `i` as its bytes, the first character first. -/
def messageBytes (i : BitVec 4) : List Byte := beBytes (romRow i).1 (romRow i).2

/-- `MSGBYTE(i, k)`: byte `k` of message `i`, and `0x00` from `MSGLEN(i)` on (rules R43 and R185). -/
def msgByte (i : BitVec 4) (k : BitVec 6) : Byte := (messageBytes i).getD k.toNat 0

/-- The indices of the messages in the output list: the set bits of `MSGV` in ascending order (rule R186). -/
def messageIndices (msgv : Word16) : List (BitVec 4) :=
  ((List.range 16).filter fun i => msgv.getLsbD i).map (BitVec.ofNat 4)

/-- `Messages(MSGV)`, the source's list of strings (rule R186). -/
def messages (msgv : Word16) : List (List Byte) := (messageIndices msgv).map messageBytes

end Sys2Proof.Machine
end

