-- ==== Sys2Proof/Machine/ReadPort.lean ====
section
/-! DEFINITION. The register read space `RD(r)` (spec/20_memory.md rule R41). A read is a function of the state: it
changes nothing (rules R41, R43 and R44), and it is answered in every state, the error state and reset included. -/

namespace Sys2Proof.Machine

/-- Four serial bytes from index `i`, the first the most significant (rule R41, indices 9 to 11). -/
def serialGroup (s : State) (i : Nat) : Word32 :=
  BitVec.ofNat 32 (beNat ((s.ser.toList.drop i).take 4))

/-- `RD(r)` for the 32 indices of rule R41; the reserved indices 12 to 31 read 0. -/
def rd (s : State) (r : BitVec 5) : Word32 :=
  if r = 0 then s.status
  else if r = 1 then s.counts
  else if r = 2 then s.key.extractLsb' 32 32
  else if r = 3 then s.key.extractLsb' 0 32
  else if r = 4 then highBits s.pt
  else if r = 5 then lowBits s.pt
  else if r = 6 then s.ct.extractLsb' 32 32
  else if r = 7 then s.ct.extractLsb' 0 32
  else if r = 8 then s.result
  else if r = 9 then serialGroup s 0
  else if r = 10 then serialGroup s 4
  else if r = 11 then serialGroup s 8
  else 0

end Sys2Proof.Machine
end

