-- ==== Sys2Proof/Safety.lean ====
section
/-! DEFINITION. What counts as a sound state and a successful run: the invariants of spec/10_state.md rule R29, and the
words the statements use for runs (spec/70_reset_and_hazards.md rule R237). -/

namespace Sys2Proof.Machine

/-- The invariants I1 to I9 of rule R29, and what rule R230 says of the reset input. -/
structure Invariant (s : State) : Prop where
  /-- I1. -/
  keyValid : s.kv = true → s.scnt = 12 ∧ s.key = kdf s.ser ∧ s.err = 0
  /-- I2. -/
  keyAbsent : s.kv = false → s.key = 0
  /-- I3. -/
  classValid : s.cv = true → s.pv = true ∧ (s.cls, s.msgv) = classify s.pt ∧ s.err = 0
  /-- I4. -/
  classAbsent : s.cv = false → s.cls = 0 ∧ s.msgv = 0
  /-- I5, first half. -/
  plainValid : s.pv = true → s.pcnt = 8 ∧ s.err = 0
  /-- I5, second half. -/
  plainEmpty : s.pcnt = 0 → s.pt = 0
  /-- I6. -/
  errorEmpty : s.err ≠ 0 →
    s.kv = false ∧ s.pv = false ∧ s.cv = false ∧ s.key = 0 ∧ s.pt = 0 ∧ s.pcnt = 0 ∧ s.cls = 0 ∧ s.msgv = 0
  /-- I7, the error codes. -/
  errorCodes : s.err = 0 ∨ s.err = 1 ∨ s.err = 2 ∨ s.err = 3 ∨ s.err = 5 ∨ s.err = 6 ∨ s.err = 7
  /-- I7, the classification codes. -/
  classCodes : s.cls = 0 ∨ s.cls = 1 ∨ s.cls = 2 ∨ s.cls = 3 ∨ s.cls = 4
  /-- I7, `E_CRYPTO`: only where `RejectKey` is true of some derived key. -/
  cryptoCause : s.err = 3 → ∃ ser : Vector Byte 12, rejectKey s.cfg (kdf ser) = true
  /-- I8, the serial; with `SCNT = 0` it says that `SER` is all zero. -/
  serialTail : ∀ i : Fin 12, s.scnt.toNat ≤ i.val → s.ser[i] = 0
  /-- I8, the xval. -/
  xvalEmpty : s.xcnt = 0 → s.ct = 0 ∧ s.xbad = false
  /-- I9. -/
  singleMessage : ∀ i : Nat, i = 13 ∨ i = 14 ∨ i = 15 → s.msgv.getLsbD i = true → s.msgv = BitVec.twoPow 16 i
  /-- Rule R230: while reset is asserted the unit is in the reset state. -/
  resetHeld : s.resetLine = true → s = { clearUnit s with resetLine := true }

/-- A run has succeeded when its end state has `ERR = 0` (rule R237). -/
def succeeded (s : State) : Bool := s.err == 0

/-- The fourteen elements of rule R10 are the same in both states. -/
def sameUnit (s t : State) : Bool :=
  decide ({ s with cfg := t.cfg, resetLine := t.resetLine, inputs := t.inputs } = t)

/-- The source's condition on the xval text (rule R84): without its dashes, sixteen hexadecimal digits. -/
def xvalTextValid (text : List Byte) : Bool :=
  let t := text.filter (· != dash)
  t.length == xvalNibbles && t.all fun c => (hexVal c).isSome

/-- The number whose hexadecimal spelling is the text without its dashes (rule R84). -/
def xvalTextValue (text : List Byte) : Nat :=
  (text.filter (· != dash)).foldl (fun acc c => 16 * acc + ((hexVal c).getD 0).toNat) 0

/-- The length of the xval text without its dashes (rule R84). -/
def xvalTextLength (text : List Byte) : Nat := (text.filter (· != dash)).length

/-- The operand streams of rule R87. -/
inductive Stream where
  | serial
  | xval
  | plain
  deriving DecidableEq, Repr

/-- The operand stream a command pushes to; none for a command that pushes nothing (rule R87). -/
def streamOf : Instr → Option Stream
  | .nop => none
  | .clr => none
  | .pushs _ => some .serial
  | .pushx _ => some .xval
  | .pushp _ => some .plain
  | .kdf => none
  | .dec => none
  | .cls => none
  | .decrypt => none

end Sys2Proof.Machine
end

