-- ==== Sys2Proof/Certificates/Slice0/Obligations.lean ====
section
/-! DEFINITION. The statements for the provers, rule by rule of spec/. A statement that names a next state gives every
field of it: a field that does not stand in the record update is unchanged. The unit has no memory (rule R40), so a frame
has no bytes of memory to speak of; the message ROM is a constant (rule R31). -/

open Sys2Proof Sys2Proof.Machine

/-! ## Encoding (spec/30_encoding.md) -/

/-- Decode and encode agree (rules R60 to R63): the word of a command decodes to that command, its operand whole. -/
def Obligations.EncodedCommandDecodesToItself : Prop :=
  ∀ i : Instr, i.wellFormed = true → decode (encode i) = .ok i

/-- No bit of a command word is dropped (rules R60 to R63): a word that decodes is the word of what it decodes to. -/
def Obligations.DecodedCommandEncodesToItsWord : Prop :=
  ∀ (w : Word16) (i : Instr), decode w = .ok i → encode i = w

/-- Rule R62: the nine rows with their opcode, mask and match; a word decodes to a command exactly when it selects that
command's row; no word selects two rows. -/
def Obligations.DecodeFollowsTheOpcodeMap : Prop :=
  (rowRepresentatives.map fun i => (opcode i, rowMask i, rowMatch i))
      = [(0x00, 0xFFFF, 0x0000), (0x01, 0xFFFF, 0x0100), (0x10, 0xFF00, 0x1000), (0x11, 0xFF00, 0x1100),
          (0x12, 0xFF00, 0x1200), (0x20, 0xFFFF, 0x2000), (0x21, 0xFFFF, 0x2100), (0x22, 0xFFFF, 0x2200),
          (0x23, 0xFFFF, 0x2300)]
    ∧ (∀ w : Word16, (∃ i, decode w = .ok i) ↔ ∃ r ∈ rowRepresentatives, selectsRow w r = true)
    ∧ (∀ (w : Word16) (i : Instr), decode w = .ok i → selectsRow w i = true)
    ∧ ∀ w : Word16, ∀ r ∈ rowRepresentatives, ∀ r' ∈ rowRepresentatives,
        selectsRow w r = true → selectsRow w r' = true → r = r'

/-- Rule R64: exactly these words are illegal, and what one does in either state of `ERR`. -/
def Obligations.IllegalWordFailsOrIsIgnored : Prop :=
  ∀ w : Word16,
    ((∀ i, decode w ≠ .ok i) ↔
        (w.extractLsb' 8 8 ∉ ([0x00, 0x01, 0x10, 0x11, 0x12, 0x20, 0x21, 0x22, 0x23] : List Byte)
          ∨ (w.extractLsb' 8 8 ∈ ([0x00, 0x01, 0x20, 0x21, 0x22, 0x23] : List Byte) ∧ w.extractLsb' 0 8 ≠ 0)))
      ∧ ∀ s : State, (∀ i, decode w ≠ .ok i) →
          (s.err = 0 → takeCommand w s = .next (failWith .illegal s))
            ∧ (s.err ≠ 0 → takeCommand w s = .next s)

/-- The words that rules R62, R64 and R66 spell out decode to what they say. A sanity statement. -/
def Obligations.SpelledOutWordsDecode : Prop :=
  decode 0x0000 = .ok .nop ∧ decode 0x0100 = .ok .clr ∧ decode 0x1030 = .ok (.pushs 0x30)
    ∧ decode 0x112D = .ok (.pushx 0x2D) ∧ decode 0x12FF = .ok (.pushp 0xFF) ∧ decode 0x2000 = .ok .kdf
    ∧ decode 0x2100 = .ok .dec ∧ decode 0x2200 = .ok .cls ∧ decode 0x2300 = .ok .decrypt
    ∧ (∀ i, decode 0x2301 ≠ .ok i) ∧ (∀ i, decode 0x13FF ≠ .ok i) ∧ (∀ i, decode 0x0101 ≠ .ok i)
    ∧ ∀ i, decode 0x0200 ≠ .ok i

/-! ## The step (spec/20_memory.md, spec/30_encoding.md, spec/70_reset_and_hazards.md) -/

/-- A step runs the decoded command: with a command word as the host's next event and the reset input released, the step
is `exec` of the decoded command on the state with that event taken out; a word that decodes to nothing is the illegal
command there. That the host's events stand in the state is the model's choice (notes/assumptions/1.md). -/
def Obligations.StepRunsDecodedCommand : Prop :=
  ∀ (s : State) (w : Word16) (rest : List HostEvent), s.resetLine = false → s.inputs = .command w :: rest →
    (∀ i : Instr, i.wellFormed = true → decode w = .ok i → step s = exec i { s with inputs := rest })
      ∧ ((∀ i, decode w ≠ .ok i) → step s = illegalCommand { s with inputs := rest })

/-- Rule R46: commands take effect in the order the host writes them, each once, none dropped. `n` steps on `n` waiting
words are the run of those words. The waiting words are the model's own field (notes/assumptions/1.md). -/
def Obligations.WaitingCommandsRunInOrder : Prop :=
  ∀ (ws : List Word16) (rest : List HostEvent) (s : State), s.resetLine = false →
    s.inputs = ws.map HostEvent.command ++ rest →
    Host.Core.run core ws.length s = runWords ws { s with inputs := rest }

/-- Rules R236 and R237: every command completes and every run ends, from every state; nothing faults, hangs or is
refused. -/
def Obligations.EveryRunCompletes : Prop :=
  (∀ s : State, ∃ t, step s = .next t) ∧ ∀ (ws : List Word16) (s : State), ∃ t, runWords ws s = .next t

/-- `Step(state, w)` of rule R63: the error state is tested before the word is decoded. -/
def Obligations.CommandPortIsTheDispatcher : Prop :=
  ∀ (w : Word16) (s : State),
    takeCommand w s =
      if s.err ≠ 0 then (if w = 0x0100 then .next (clearUnit s) else .next s)
      else
        match decode w with
        | .ok i => exec i s
        | .error _ => .next (failWith .illegal s)

/-! ## Errors (spec/60_exceptions.md) -/

/-- Rule R202: what `Fail` writes, and that it writes nothing else. -/
def Obligations.FailClearsEveryResult : Prop :=
  ∀ (cause : ErrorCause) (s : State),
    failWith cause s =
      { s with
        err := errorCode cause, key := 0, kv := false, pt := 0, pcnt := 0, pv := false, cls := 0, msgv := 0,
        cv := false }

/-- Rule R201: the codes, and the commands that can never fail. -/
def Obligations.ErrorCodesAndCommandsThatNeverFail : Prop :=
  ([.xval, .serial, .crypto, .internal, .noKey, .pLen, .illegal].map errorCode = [1, 2, 3, 4, 5, 6, 7])
    ∧ ∀ (i : Instr) (s t : State), i ≠ .kdf → i ≠ .dec → i ≠ .cls → i ≠ .decrypt → exec i s = .next t →
        t.err = 0 ∨ t.err = s.err

/-- Rule R203: in the error state every word but CLR changes nothing, and the state counts as no success; STATUS is
still read and shows the error. -/
def Obligations.ErrorStateIgnoresAllButClr : Prop :=
  ∀ s : State, s.err ≠ 0 →
    (∀ w : Word16, w ≠ 0x0100 → takeCommand w s = .next s)
      ∧ succeeded s = false ∧ rd s 0 = s.status ∧ s.status.getLsbD 0 = true

/-- Rule R204: an event that takes the unit out of the error state is CLR or reset, and leaves the reset state; both do
so. -/
def Obligations.ErrorStateIsLeftOnlyByClrOrReset : Prop :=
  ∀ s : State, s.err ≠ 0 →
    (∀ (e : HostEvent) (t : State), takeEvent e s = .next t → t.err ≠ s.err →
        (e = .command 0x0100 ∨ e = .assertReset) ∧ sameUnit t State.reset = true)
      ∧ (∃ t, exec .clr s = .next t ∧ t.err = 0)
      ∧ ∃ t, takeEvent .assertReset s = .next t ∧ t.err = 0

/-- Rule R206: `E_INTERNAL` is unreachable; no step writes code 4. -/
def Obligations.InternalErrorIsNeverRecorded : Prop :=
  (∀ s t : State, s.err ≠ 4 → step s = .next t → t.err ≠ 4) ∧ State.reset.err ≠ 4

/-- Rule R207: with the default `RejectKey`, `E_CRYPTO` is unreachable. -/
def Obligations.CryptoErrorNeedsARejectedKey : Prop :=
  ∀ s t : State, s.cfg = Config.neverRejects → s.err ≠ 3 → step s = .next t →
    t.cfg = Config.neverRejects ∧ t.err ≠ 3

/-! ## The commands, one statement each: the result, and that nothing else changes -/

/-- Rule R162, NOP: no state change in any state; `0x0001` to `0x00FF` are illegal. -/
def Obligations.NopChangesNothing : Prop :=
  (∀ s : State, exec .nop s = .next s) ∧ decode 0x0000 = .ok .nop
    ∧ ∀ (w : Word16) (i : Instr), 1 ≤ w.toNat → w.toNat ≤ 0xFF → decode w ≠ .ok i

/-- Rule R163, CLR: every element of rule R10 takes its reset value, in every state, and no other command acts in the
error state; `0x0101` to `0x01FF` are not CLR, and do not clear the error state. -/
def Obligations.ClrZeroesTheUnit : Prop :=
  (∀ s : State,
      exec .clr s = .next
        { s with
          ser := Vector.replicate 12 0, scnt := 0, ct := 0, xcnt := 0, xbad := false, pt := 0, pcnt := 0, pv := false,
          key := 0, kv := false, cls := 0, msgv := 0, cv := false, err := 0 })
    ∧ decode 0x0100 = .ok .clr
    ∧ (∀ (i : Instr) (s : State), i ≠ .clr → s.err ≠ 0 → exec i s = .next s)
    ∧ ∀ w : Word16, 0x0101 ≤ w.toNat → w.toNat ≤ 0x01FF →
        (∀ i, decode w ≠ .ok i) ∧ ∀ s : State, s.err ≠ 0 → takeCommand w s = .next s

/-- Rule R81, PUSHS: the byte goes to `SER[SCNT]` where there is such a byte, the count saturates, the key is
discarded. -/
def Obligations.PushsStoresOneSerialByte : Prop :=
  ∀ (b : Byte) (s : State), s.err = 0 →
    decode (0x10#8 ++ b) = .ok (.pushs b)
      ∧ ∃ t, exec (.pushs b) s = .next t
        ∧ (∀ i : Fin 12, t.ser[i] = if i.val = s.scnt.toNat then b else s.ser[i])
        ∧ t.scnt.toNat = min (s.scnt.toNat + 1) 255
        ∧ t = { s with ser := t.ser, scnt := t.scnt, key := 0, kv := false }

/-- Rule R82, PUSHX: a dash changes nothing; any other character is counted, a hexadecimal digit is shifted in while
`XCNT < 16`, and a character that is no digit sets `XBAD`. -/
def Obligations.PushxTakesOneXvalCharacter : Prop :=
  ∀ (c : Byte) (s : State), s.err = 0 →
    decode (0x11#8 ++ c) = .ok (.pushx c)
      ∧ (c = 0x2D → exec (.pushx c) s = .next s)
      ∧ (c ≠ 0x2D → ∃ t, exec (.pushx c) s = .next t
          ∧ t.xcnt.toNat = min (s.xcnt.toNat + 1) 255
          ∧ (∀ d, hexVal c = some d → t.xbad = s.xbad
              ∧ (s.xcnt.toNat < 16 → t.ct.toNat = (16 * s.ct.toNat + d.toNat) % 2 ^ 64)
              ∧ (16 ≤ s.xcnt.toNat → t.ct = s.ct))
          ∧ (hexVal c = none → t.xbad = true ∧ t.ct = s.ct)
          ∧ t = { s with ct := t.ct, xcnt := t.xcnt, xbad := t.xbad })

/-- Rule R80: `HexVal`, class by class. -/
def Obligations.HexValOfEveryCharacter : Prop :=
  ∀ c : Byte,
    (0x30 ≤ c.toNat ∧ c.toNat ≤ 0x39 → ∃ d, hexVal c = some d ∧ d.toNat = c.toNat - 0x30)
      ∧ (0x41 ≤ c.toNat ∧ c.toNat ≤ 0x46 → ∃ d, hexVal c = some d ∧ d.toNat = c.toNat - 0x41 + 10)
      ∧ (0x61 ≤ c.toNat ∧ c.toNat ≤ 0x66 → ∃ d, hexVal c = some d ∧ d.toNat = c.toNat - 0x61 + 10)
      ∧ (c.toNat < 0x30 ∨ (0x39 < c.toNat ∧ c.toNat < 0x41) ∨ (0x46 < c.toNat ∧ c.toNat < 0x61) ∨ 0x66 < c.toNat →
          hexVal c = none)
      ∧ hexVal 0x2D = none

/-- Rule R83, PUSHP: the byte is shifted into `PT`, `PV` says whether the new count is 8, and the classification is
discarded. -/
def Obligations.PushpShiftsOnePlaintextByte : Prop :=
  ∀ (b : Byte) (s : State), s.err = 0 →
    decode (0x12#8 ++ b) = .ok (.pushp b)
      ∧ ∃ t, exec (.pushp b) s = .next t
        ∧ t.pt.toNat = (256 * s.pt.toNat + b.toNat) % 2 ^ 64
        ∧ t.pcnt.toNat = min (s.pcnt.toNat + 1) 255
        ∧ (t.pv = true ↔ t.pcnt = 8)
        ∧ t = { s with pt := t.pt, pcnt := t.pcnt, pv := t.pv, cls := 0, msgv := 0, cv := false }

/-- Rule R112, KDF: with a serial of twelve bytes the key is derived and marked valid; otherwise `E_SERIAL`. -/
def Obligations.KdfDerivesTheKey : Prop :=
  decode 0x2000 = .ok .kdf
    ∧ ∀ s : State, s.err = 0 →
        (s.scnt = 12 → exec .kdf s = .next { s with key := kdf s.ser, kv := true })
          ∧ (s.scnt ≠ 12 → exec .kdf s = .next (failWith .serial s))

/-- Rule R145, DEC: with a valid xval, a key and a cipher that takes the key, `PT` is the decrypted block; otherwise the
first test that fails, in the rule's order, names the error. -/
def Obligations.DecDecryptsTheBlock : Prop :=
  decode 0x2100 = .ok .dec
    ∧ ∀ s : State, s.err = 0 →
        (s.xcnt = 16 → s.xbad = false → s.kv = true → rejectKey s.cfg s.key = false →
            exec .dec s = .next
              { s with pt := desDec s.key s.ct, pcnt := 8, pv := true, cls := 0, msgv := 0, cv := false })
          ∧ (¬ (s.xcnt = 16 ∧ s.xbad = false) → exec .dec s = .next (failWith .xval s))
          ∧ (s.xcnt = 16 → s.xbad = false → s.kv = false → exec .dec s = .next (failWith .noKey s))
          ∧ (s.xcnt = 16 → s.xbad = false → s.kv = true → rejectKey s.cfg s.key = true →
              exec .dec s = .next (failWith .crypto s))

/-- Rule R187, CLS: a plaintext of exactly eight bytes is classified; otherwise `E_PLEN`. -/
def Obligations.ClsClassifiesThePlaintext : Prop :=
  decode 0x2200 = .ok .cls
    ∧ ∀ s : State, s.err = 0 →
        (s.pv = true →
            exec .cls s = .next { s with cls := (classify s.pt).1, msgv := (classify s.pt).2, cv := true })
          ∧ (s.pv = false → exec .cls s = .next (failWith .pLen s))

/-- Rule R160, DECRYPT: with both operands valid and a cipher that takes the derived key, key and plaintext are both
written; otherwise the first test that fails, in the rule's order, names the error. -/
def Obligations.DecryptDerivesAndDecrypts : Prop :=
  decode 0x2300 = .ok .decrypt
    ∧ ∀ s : State, s.err = 0 →
        (s.xcnt = 16 → s.xbad = false → s.scnt = 12 → rejectKey s.cfg (kdf s.ser) = false →
            exec .decrypt s = .next
              { s with
                key := kdf s.ser, kv := true, pt := desDec (kdf s.ser) s.ct, pcnt := 8, pv := true, cls := 0,
                msgv := 0, cv := false })
          ∧ (¬ (s.xcnt = 16 ∧ s.xbad = false) → exec .decrypt s = .next (failWith .xval s))
          ∧ (s.xcnt = 16 → s.xbad = false → s.scnt ≠ 12 → exec .decrypt s = .next (failWith .serial s))
          ∧ (s.xcnt = 16 → s.xbad = false → s.scnt = 12 → rejectKey s.cfg (kdf s.ser) = true →
              exec .decrypt s = .next (failWith .crypto s))

/-- Rule R161: no partial results, from any state with `ERR = 0`. -/
def Obligations.DecryptIsAllOrNothing : Prop :=
  ∀ s : State, s.err = 0 →
    ∃ t, exec .decrypt s = .next t
      ∧ ((t.err = 0 ∧ t.kv = true ∧ t.pv = true ∧ t.key = kdf t.ser ∧ t.pt = desDec t.key t.ct)
        ∨ (t.err = 1 ∨ t.err = 2 ∨ t.err = 3) ∧ t.kv = false ∧ t.pv = false ∧ t.key = 0 ∧ t.pt = 0)

/-- Rule R164: DECRYPT against the sequence KDF, DEC, from any state with `ERR = 0`. -/
def Obligations.DecryptAgainstKdfThenDec : Prop :=
  ∀ s : State, s.err = 0 →
    (s.xvalid = true → s.svalid = true → rejectKey s.cfg (kdf s.ser) = false →
        exec .decrypt s = runCommands [.kdf, .dec] s)
      ∧ (s.xvalid = false → s.svalid = true →
          exec .decrypt s = .next (failWith .xval s)
            ∧ exec .kdf s = .next (loadKey (kdf s.ser) s)
            ∧ runCommands [.kdf, .dec] s = exec .decrypt s)
      ∧ (s.xvalid = false → s.svalid = false →
          exec .decrypt s = .next (failWith .xval s)
            ∧ exec .kdf s = .next (failWith .serial s)
            ∧ runCommands [.kdf, .dec] s = .next { failWith .xval s with err := 2 })
      ∧ (s.xvalid = true → s.svalid = false →
          exec .decrypt s = .next (failWith .serial s) ∧ runCommands [.kdf, .dec] s = .next (failWith .serial s))
      ∧ (s.xvalid = true → s.svalid = true → rejectKey s.cfg (kdf s.ser) = true →
          exec .decrypt s = .next (failWith .crypto s) ∧ runCommands [.kdf, .dec] s = .next (failWith .crypto s))

/-! ## The operand streams (spec/40_frontend_operands.md) -/

/-- Rule R84, the law of the xval text. The other fields keep their values. -/
def Obligations.XvalTextIsStrippedCheckedAndDecoded : Prop :=
  ∀ (text : List Byte) (s : State), s.err = 0 → s.xcnt = 0 → s.xbad = false → s.ct = 0 →
    ∃ t, runCommands (text.map .pushx) s = .next t
      ∧ t.xcnt.toNat = min (xvalTextLength text) 255
      ∧ (t.xbad = true ↔ ∃ c ∈ text, c ≠ 0x2D ∧ hexVal c = none)
      ∧ (t.xvalid = true ↔ xvalTextValid text = true)
      ∧ (t.xvalid = true → t.ct.toNat = xvalTextValue text)
      ∧ t = { s with ct := t.ct, xcnt := t.xcnt, xbad := t.xbad }

/-- Rule R85, the law of the serial; a serial of any other length than 12 is rejected by KDF, and by DECRYPT where the
xval is valid. -/
def Obligations.SerialIsStoredAndCounted : Prop :=
  ∀ (bytes : List Byte) (s : State), s.err = 0 → s.scnt = 0 → s.ser = Vector.replicate 12 0 →
    ∃ t, runCommands (bytes.map .pushs) s = .next t
      ∧ t.scnt.toNat = min bytes.length 255
      ∧ (∀ i : Fin 12, t.ser[i] = bytes.getD i.val 0)
      ∧ (t.svalid = true ↔ bytes.length = 12)
      ∧ (bytes.length ≠ 12 → exec .kdf t = .next (failWith .serial t))
      ∧ (bytes.length ≠ 12 → s.xvalid = true → exec .decrypt t = .next (failWith .serial t))
      ∧ t = { s with ser := t.ser, scnt := t.scnt, key := t.key, kv := t.kv }

/-- Rule R86, the law of the pushed plaintext. -/
def Obligations.PlaintextIsPushedBigEndian : Prop :=
  ∀ (bytes : List Byte) (s : State), s.err = 0 → s.pcnt = 0 → s.pt = 0 → s.pv = false →
    ∃ t, runCommands (bytes.map .pushp) s = .next t
      ∧ t.pcnt.toNat = min bytes.length 255
      ∧ (t.pv = true ↔ bytes.length = 8)
      ∧ (bytes.length = 8 → t.pt.toNat = beNat bytes ∧ (highBits t.pt).toNat = beNat (bytes.take 4)
          ∧ (lowBits t.pt).toNat = beNat (bytes.drop 4))

/-- Rule R87: pushes to two streams may change places. -/
def Obligations.OperandStreamsCommute : Prop :=
  ∀ (i j : Instr) (a b : Stream) (s : State), streamOf i = some a → streamOf j = some b → a ≠ b →
    runCommands [i, j] s = runCommands [j, i] s

/-- The unit's function (rules R2 and R234): from any state, the transaction on a valid serial and a valid xval text ends
with the key of the serial, the decryption of the text's block under that key, and its classification. -/
def Obligations.TransactionDecryptsThenInterprets : Prop :=
  ∀ (s : State) (ser : Vector Byte 12) (text : List Byte), xvalTextValid text = true →
    rejectKey s.cfg (kdf ser) = false →
    ∃ t, runCommands (.clr :: (ser.toList.map .pushs ++ text.map .pushx ++ [.decrypt, .cls])) s = .next t
      ∧ t.err = 0 ∧ t.kv = true ∧ t.pv = true ∧ t.cv = true
      ∧ t.key = kdf ser
      ∧ t.pt = desDec (kdf ser) (BitVec.ofNat 64 (xvalTextValue text))
      ∧ (t.cls, t.msgv) = classify t.pt

/-- The same transaction on malformed operands (rules R84, R85, R160 and R203): the xval is judged first, CLS after the
failure is ignored, and no result is left. -/
def Obligations.TransactionRejectsMalformedOperands : Prop :=
  ∀ (s : State) (serial text : List Byte), xvalTextValid text = false ∨ serial.length ≠ 12 →
    ∃ t, runCommands (.clr :: (serial.map .pushs ++ text.map .pushx ++ [.decrypt, .cls])) s = .next t
      ∧ t.err = (if xvalTextValid text then 2 else 1)
      ∧ t.kv = false ∧ t.pv = false ∧ t.cv = false ∧ t.key = 0 ∧ t.pt = 0 ∧ t.cls = 0 ∧ t.msgv = 0

/-! ## Key derivation (spec/41_kdf_hmac_sha1.md) -/

/-- Rule R110: the derivation through the general HMAC is four compressions over four blocks, each of 64 bytes, and the
second block is the constant the rule prints. -/
def Obligations.KdfIsFourCompressions : Prop :=
  (∀ ser : Vector Byte 12, kdf ser = kdfFourBlocks ser)
    ∧ (∀ ser : Vector Byte 12, (kdfKeyBlock 0x36 ser).length = 64 ∧ (kdfKeyBlock 0x5C ser).length = 64)
    ∧ kdfInnerBlock.length = 64
    ∧ (∀ h : Sha1Words, (kdfOuterBlock h).length = 64)
    ∧ sha1BlockWords kdfInnerBlock
        = [0x58424F58, 0x33363053, 0x53428000] ++ List.replicate 12 0 ++ [0x00000250]

/-- Rule R105: the padding of a message of `n` bytes is `0x80`, the least number of zeros that completes a block, and
the length in bits as eight big-endian bytes. -/
def Obligations.Sha1PaddingCompletesTheBlock : Prop :=
  ∀ m : List Byte, ∃ z : Nat,
    sha1Pad m = m ++ [0x80] ++ List.replicate z 0 ++ beBytes 8 (8 * m.length)
      ∧ (m.length + 1 + z + 8) % 64 = 0
      ∧ (∀ y, (m.length + 1 + y + 8) % 64 = 0 → z ≤ y)
      ∧ (sha1Pad m).length = 64 * ((m.length + 9 + 63) / 64)

/-! ## DES (spec/42_des_decrypt.md) -/

/-- Rule R133: the final permutation inverts the initial one, and the initial one the final. -/
def Obligations.FinalPermutationInvertsInitial : Prop :=
  ∀ x : Word64, perm 64 tableFP (perm 64 tableIP x) = x ∧ perm 64 tableIP (perm 64 tableFP x) = x

/-- Rule R143: decryption and encryption under one key invert each other. -/
def Obligations.DecryptionInvertsEncryption : Prop :=
  ∀ key x : Word64, desDec key (desEnc key x) = x ∧ desEnc key (desDec key x) = x

/-- Rule R146: for every key, decryption is a bijection on 64-bit blocks. -/
def Obligations.DecryptionIsABijection : Prop :=
  ∀ key : Word64, Function.Bijective (desDec key)

/-- Rule R138: the eight parity bits of the key have no effect on the result. -/
def Obligations.KeyParityBitsAreIgnored : Prop :=
  ∀ key m block : Word64, m &&& 0xFEFEFEFEFEFEFEFE = 0 → desDec (key ^^^ m) block = desDec key block

/-- Rule R146: the complementation property. -/
def Obligations.ComplementOfKeyAndBlock : Prop :=
  ∀ key block : Word64, desDec (~~~key) (~~~block) = ~~~(desDec key block)

/-- Rule R144: the configuration of the weak and semi-weak keys refuses exactly the listed keys, parity bits ignored. -/
def Obligations.WeakKeyConfigurationRejectsTheListedKeys : Prop :=
  ∀ k : Word64, rejectKey Config.rejectsWeakKeys k = true ↔
    (k ||| 0x0101010101010101) ∈ weakKeys.map (· ||| 0x0101010101010101)

/-! ## Classification and messages (spec/44_flag_classifier.md) -/

/-- Rule R181: the four outcomes in their priority order, on the two words of the plaintext as numbers. -/
def Obligations.ClassifyFollowsThePriorityOrder : Prop :=
  ∀ pt : Word64,
    (pt.toNat % 2 ^ 32 = 0 ∧ pt.toNat / 2 ^ 32 = 0 → classify pt = (1, 0x2000))
      ∧ (pt.toNat % 2 ^ 32 = 2 ^ 32 - 1 ∧ pt.toNat / 2 ^ 32 = 2 ^ 32 - 1 → classify pt = (2, 0x4000))
      ∧ (pt.toNat % 2 ^ 32 ≠ 0 ∧ pt.toNat / 2 ^ 32 ≠ 0
          ∧ ¬ (pt.toNat % 2 ^ 32 = 2 ^ 32 - 1 ∧ pt.toNat / 2 ^ 32 = 2 ^ 32 - 1) → classify pt = (3, 0x8000))
      ∧ ((pt.toNat % 2 ^ 32 = 0 ∧ pt.toNat / 2 ^ 32 ≠ 0) ∨ (pt.toNat % 2 ^ 32 ≠ 0 ∧ pt.toNat / 2 ^ 32 = 0) →
          classify pt = (4, flagVector (BitVec.ofNat 32 (pt.toNat % 2 ^ 32))))

/-- Rules R183 and R184, bit by bit: bits 0 to 11 are those of `lo`, bit 12 says that some bit from 15 to 31 of `lo` is
set, bits 13 to 15 are 0, and so bits 12 to 14 of `lo` reach no output. -/
def Obligations.FlagVectorBitByBit : Prop :=
  ∀ lo : Word32,
    (∀ i, i < 12 → (flagVector lo).getLsbD i = lo.getLsbD i)
      ∧ ((flagVector lo).getLsbD 12 = true ↔ ∃ j, 15 ≤ j ∧ j ≤ 31 ∧ lo.getLsbD j = true)
      ∧ ∀ i, 13 ≤ i → (flagVector lo).getLsbD i = false

/-- Rule R188: exactly two families of plaintexts give the fourth outcome with an empty list. -/
def Obligations.EmptyListHasExactlyTwoFamilies : Prop :=
  ∀ pt : Word64,
    classify pt = (4, 0) ↔
      (highBits pt = 0
          ∧ lowBits pt ∈ ([0x1000, 0x2000, 0x3000, 0x4000, 0x5000, 0x6000, 0x7000] : List Word32))
        ∨ (lowBits pt = 0 ∧ highBits pt ≠ 0)

/-- Rule R185: the sixteen strings at their indices, their lengths, and zero from the end of a message on. -/
def Obligations.MessageRomHoldsTheStrings : Prop :=
  ((List.range 16).map fun i => (messageBytes (BitVec.ofNat 4 i)).map BitVec.toNat)
      = [codes "AuthEx challenge failure (AP 2.5 related)", codes "AuthEx table missing (AP 2.5 related)",
          codes "AuthEx reserved flag (AP 2.5 related)", codes "Invalid DVD geometry", codes "Invalid DVD DMI",
          codes "Invalid CRL data", codes "CRL certificate revoked", codes "CRL certificate revoked",
          codes "Unauthorized install", codes "Keyvault policy violation", codes "Console is banned",
          codes "ODD violation", codes "Unknown violation(s)", codes "Secdata is clean", codes "Secdata is invalid",
          codes "Secdata decryption error"]
    ∧ (∀ i : BitVec 4, (msgLen i).toNat = (messageBytes i).length)
    ∧ (∀ (i : BitVec 4) (k : BitVec 6), (msgLen i).toNat ≤ k.toNat → msgByte i k = 0)
    ∧ (∀ (i : BitVec 4) (k : BitVec 6), k.toNat < (msgLen i).toNat → (messageBytes i)[k.toNat]? = some (msgByte i k))

/-- Rule R182: the flag table, row by row: each flag's bit of `lo`, its mask, its row in the source's table, and the
string of the message whose index is that bit; and `FlagVector` has that bit set exactly when the mask meets `lo`. -/
def Obligations.FlagTableRowByRow : Prop :=
  ([FlagBit.authExFailure, .authExNoTable, .authExReserved, .invalidDvdGeometry, .invalidDvdDmi,
      .dvdKeyvaultPairMismatch, .crlDataInvalid, .crlCertificateRevoked, .unauthorizedInstall,
      .keyvaultPolicyViolation, .consoleBanned, .oddViolation].map fun f =>
        (flagPosition f, 1#32 <<< flagPosition f, flagRow f,
          (messageBytes (BitVec.ofNat 4 (flagPosition f))).map BitVec.toNat))
      = [(0, 0x0001, 1, codes "AuthEx challenge failure (AP 2.5 related)"),
          (1, 0x0002, 2, codes "AuthEx table missing (AP 2.5 related)"),
          (2, 0x0004, 3, codes "AuthEx reserved flag (AP 2.5 related)"),
          (3, 0x0008, 4, codes "Invalid DVD geometry"),
          (4, 0x0010, 5, codes "Invalid DVD DMI"),
          (5, 0x0020, 6, codes "Invalid CRL data"),
          (6, 0x0040, 7, codes "CRL certificate revoked"),
          (7, 0x0080, 8, codes "CRL certificate revoked"),
          (8, 0x0100, 9, codes "Unauthorized install"),
          (9, 0x0200, 10, codes "Keyvault policy violation"),
          (10, 0x0400, 11, codes "Console is banned"),
          (11, 0x0800, 12, codes "ODD violation")]
    ∧ ∀ (f : FlagBit) (lo : Word32),
        (flagVector lo).getLsbD (flagPosition f) = true ↔ lo &&& (1#32 <<< flagPosition f) ≠ 0

/-- Rule R186: the output list is the messages of the set bits of `MSGV`, in ascending order, each once. -/
def Obligations.OutputListIsTheSetBitsAscending : Prop :=
  ∀ msgv : Word16,
    messages msgv = (messageIndices msgv).map messageBytes
      ∧ (messageIndices msgv).Pairwise (· < ·)
      ∧ ∀ i : BitVec 4, i ∈ messageIndices msgv ↔ msgv.getLsbD i.toNat = true

/-! ## The read port (spec/10_state.md and spec/20_memory.md) -/

/-- Rule R26: STATUS, bit by bit; it reads zero after reset. -/
def Obligations.StatusWordBitByBit : Prop :=
  State.reset.status = 0 ∧ ∀ s : State,
    (s.status.getLsbD 0 = true ↔ s.err ≠ 0) ∧ s.status.getLsbD 1 = s.kv ∧ s.status.getLsbD 2 = s.pv
      ∧ s.status.getLsbD 3 = s.cv ∧ s.status.getLsbD 4 = s.xbad
      ∧ (s.status.getLsbD 5 = true ↔ s.scnt = 12)
      ∧ (s.status.getLsbD 6 = true ↔ s.xcnt = 16 ∧ s.xbad = false)
      ∧ s.status.getLsbD 7 = false ∧ s.status.extractLsb' 8 4 = s.err ∧ s.status.extractLsb' 12 20 = 0

/-- Rules R27 and R28: the fields of COUNTS and RESULT; both read zero after reset. -/
def Obligations.CountsAndResultWords : Prop :=
  State.reset.counts = 0 ∧ State.reset.result = 0 ∧ ∀ s : State,
    s.counts.extractLsb' 0 8 = s.scnt ∧ s.counts.extractLsb' 8 8 = s.xcnt ∧ s.counts.extractLsb' 16 8 = s.pcnt
      ∧ s.counts.extractLsb' 24 8 = 0
      ∧ s.result.extractLsb' 0 16 = s.msgv ∧ s.result.extractLsb' 16 3 = s.cls ∧ s.result.extractLsb' 19 13 = 0

/-- Rule R41: the register read map. -/
def Obligations.RegisterReadMap : Prop :=
  ∀ s : State,
    rd s 0 = s.status ∧ rd s 1 = s.counts
      ∧ rd s 2 ++ rd s 3 = s.key ∧ rd s 4 ++ rd s 5 = s.pt ∧ rd s 6 ++ rd s 7 = s.ct
      ∧ rd s 8 = s.result
      ∧ rd s 9 = s.ser[0] ++ s.ser[1] ++ s.ser[2] ++ s.ser[3]
      ∧ rd s 10 = s.ser[4] ++ s.ser[5] ++ s.ser[6] ++ s.ser[7]
      ∧ rd s 11 = s.ser[8] ++ s.ser[9] ++ s.ser[10] ++ s.ser[11]
      ∧ ∀ r : BitVec 5, 12 ≤ r.toNat → rd s r = 0

/-! ## Reset (spec/10_state.md and spec/70_reset_and_hazards.md) -/

/-- Rule R33: every element of rule R10 is zero after reset, and every register read is zero. -/
def Obligations.ResetValuesAreZero : Prop :=
  State.reset.ser = Vector.replicate 12 0 ∧ State.reset.scnt = 0 ∧ State.reset.ct = 0 ∧ State.reset.xcnt = 0
    ∧ State.reset.xbad = false ∧ State.reset.pt = 0 ∧ State.reset.pcnt = 0 ∧ State.reset.pv = false
    ∧ State.reset.key = 0 ∧ State.reset.kv = false ∧ State.reset.cls = 0 ∧ State.reset.msgv = 0
    ∧ State.reset.cv = false ∧ State.reset.err = 0 ∧ ∀ r : BitVec 5, rd State.reset r = 0

/-- Rule R230: asserting reset puts the unit in the reset state from every state, and every read is then zero; while it
is asserted no command word is accepted; when it is released the unit is in the reset state. That a word written while
reset is asserted is lost is the model's choice (notes/assumptions/2.md). -/
def Obligations.ResetInputHoldsTheResetState : Prop :=
  ∀ s : State, ∃ t u,
    takeEvent .assertReset s = .next t ∧ sameUnit t State.reset = true ∧ (∀ r : BitVec 5, rd t r = 0)
      ∧ (∀ w : Word16, takeEvent (.command w) t = .next t)
      ∧ takeEvent .releaseReset t = .next u ∧ sameUnit u State.reset = true ∧ u.resetLine = false

/-- Rule R231: CLR and reset give the same state of the unit, and it is the reset state. -/
def Obligations.ClrAndResetGiveTheSameState : Prop :=
  ∀ s : State, ∃ t u, exec .clr s = .next t ∧ takeEvent .assertReset s = .next u
    ∧ sameUnit t u = true ∧ sameUnit t State.reset = true ∧ exec .clr t = .next t

/-! ## Invariants (spec/10_state.md rule R29) -/

/-- The reset state has the invariants of rule R29, and the reset input's (notes/assumptions/2.md). -/
def Obligations.ResetMeetsTheInvariants : Prop := Invariant State.reset

/-- Every step keeps the invariants I1 to I9 of rule R29, and what rule R230 says of the reset input, from every state
that has them. The level of the reset input and the waiting events are the model's own fields
(notes/assumptions/1.md and notes/assumptions/2.md). -/
def Obligations.StepKeepsTheInvariants : Prop :=
  ∀ s t : State, Invariant s → step s = .next t → Invariant t

/-- Rule R29: the invariants hold in every state reachable from reset by any sequence of command words, illegal ones
included, under every configuration. The clause of `Invariant` on the reset input, a field of the model's own
(notes/assumptions/2.md), says nothing here: a run of words leaves that input released. -/
def Obligations.ReachableStatesMeetTheInvariants : Prop :=
  ∀ (cfg : Config) (ws : List Word16) (t : State),
    runWords ws { State.reset with cfg := cfg } = .next t → Invariant t

/-- Rules R5 and R34: the configuration is no state; no step changes it. That it stands in the state is the model's choice
(notes/assumptions/3.md). -/
def Obligations.StepKeepsTheConfiguration : Prop :=
  ∀ s t : State, step s = .next t → t.cfg = s.cfg

/-! ## Several units (spec/20_memory.md rule R49) -/

/-- Rule R49: however the steps of several units are interleaved, each unit ends as it would alone. -/
def Obligations.UnitsDoNotInterfere : Prop :=
  ∀ (ks : List Nat) (p : Platform) (k : Nat),
    (stepUnits ks p).length = p.length
      ∧ (stepUnits ks p)[k]? = (stepUnits (ks.filter (· == k)) p)[k]?
end

