-- ==== Sys2Proof/Laws/Classifier.lean ====
section
/-! SUPPORT. What `Classify` can answer, the unknown-violation test bit by bit, and the members of the output list. -/

namespace Sys2Proof.Laws

open Sys2Proof.Machine

/-- The four outcomes of rule R181, each with its condition and its answer. -/
theorem classify_cases (pt : Word64) :
    (lowBits pt = 0 ∧ highBits pt = 0 ∧ classify pt = (1, 0x2000))
      ∨ (lowBits pt = 0xFFFFFFFF ∧ highBits pt = 0xFFFFFFFF ∧ classify pt = (2, 0x4000))
      ∨ (lowBits pt ≠ 0 ∧ highBits pt ≠ 0 ∧ ¬ (lowBits pt = 0xFFFFFFFF ∧ highBits pt = 0xFFFFFFFF)
          ∧ classify pt = (3, 0x8000))
      ∨ ((lowBits pt = 0 ∧ highBits pt ≠ 0 ∨ lowBits pt ≠ 0 ∧ highBits pt = 0)
          ∧ classify pt = (4, flagVector (lowBits pt))) := by
  unfold classify
  simp only [classCode]
  split_ifs with h1 h2 h3
  · exact .inl ⟨h1.1, h1.2, rfl⟩
  · exact .inr (.inl ⟨h2.1, h2.2, rfl⟩)
  · exact .inr (.inr (.inl ⟨h3.1, h3.2, h2, rfl⟩))
  · refine .inr (.inr (.inr ⟨?_, rfl⟩))
    by_cases hl : lowBits pt = 0
    · exact .inl ⟨hl, fun hh => h1 ⟨hl, hh⟩⟩
    · exact .inr ⟨hl, by by_contra hh; exact h3 ⟨hl, hh⟩⟩

/-- A message is in the output list exactly when its bit of `MSGV` is set (rule R186). -/
theorem mem_messageIndices (msgv : Word16) (i : BitVec 4) :
    i ∈ messageIndices msgv ↔ msgv.getLsbD i.toNat = true := by
  simp only [messageIndices, List.mem_map, List.mem_filter, List.mem_range]
  constructor
  · rintro ⟨n, ⟨hn, hb⟩, rfl⟩
    simpa [Nat.mod_eq_of_lt hn] using hb
  · intro h
    exact ⟨i.toNat, ⟨i.isLt, h⟩, by simp⟩

end Sys2Proof.Laws
end

