-- ==== Sys2Proof/Laws/Decode.lean ====
section
/-! SUPPORT. The fields of a word that is built from its two fields, and the words that are built from a word's fields. -/

namespace Sys2Proof.Laws

/-- The high byte of two joined bytes. -/
theorem extractLsb'_high_append (a b : Byte) : (a ++ b : BitVec (8 + 8)).extractLsb' 8 8 = a := by
  ext i hi
  have h : ¬ 8 + i < 8 := by omega
  have e : 8 + i - 8 = i := by omega
  rw [BitVec.getElem_extractLsb', BitVec.getLsbD_append, if_neg h, e, BitVec.getLsbD_eq_getElem]

/-- The low byte of two joined bytes. -/
theorem extractLsb'_low_append (a b : Byte) : (a ++ b : BitVec (8 + 8)).extractLsb' 0 8 = b := by
  ext i hi
  rw [BitVec.getElem_extractLsb', BitVec.getLsbD_append, Nat.zero_add, if_pos hi, BitVec.getLsbD_eq_getElem]

/-- Rule R60: the fields of the word of an opcode and an `imm8` are these two. -/
theorem fieldsOf_append (a b : Byte) : fieldsOf (a ++ b) = { op := a, imm8 := b } :=
  congrArg₂ CommandFields.mk (extractLsb'_high_append a b) (extractLsb'_low_append a b)

/-- Rule R60: a word is its two fields. -/
theorem append_fieldsOf (w : Word16) : (fieldsOf w).op ++ (fieldsOf w).imm8 = w := by
  show (w.extractLsb' 8 8 ++ w.extractLsb' 0 8 : BitVec (8 + 8)) = w
  apply BitVec.eq_of_getLsbD_eq
  intro i hi
  rw [BitVec.getLsbD_append]
  by_cases h : i < 8
  · simp [h]
  · have h8 : i - 8 < 8 := by omega
    have e : 8 + (i - 8) = i := by omega
    simp [h, h8, e]

/-- The fields of an encoded command (rules R60 and R62). -/
theorem fieldsOf_encode (i : Instr) : fieldsOf (encode i) = { op := opcode i, imm8 := immediate i } :=
  fieldsOf_append _ _

end Sys2Proof.Laws
end

