-- ==== Sys2Proof/Laws/Decryptor.lean ====
section
/-! SUPPORT. `RejectKey` as data: it is false under the default configuration, and every predicate on keys is one. -/

namespace Sys2Proof.Laws

open Sys2Proof.Machine

@[simp] theorem rejectKey_neverRejects (k : Word64) : rejectKey Config.neverRejects k = false := rfl

@[simp] theorem rejectKey_alwaysRejects (k : Word64) : rejectKey Config.alwaysRejects k = true := by
  simp [rejectKey, Config.alwaysRejects, keyMatches]

/-- A pattern that compares every bit covers one key. -/
theorem keyMatches_allOnes (v k : Word64) : keyMatches { mask := BitVec.allOnes 64, value := v } k = (k == v) := by
  simp only [keyMatches, BitVec.and_allOnes]

/-- The keys that satisfy a predicate, as patterns of all bits. -/
def configOf (p : Word64 → Bool) : Config :=
  { rejects := (((List.range (2 ^ 64)).map (BitVec.ofNat 64)).filter p).map fun v =>
      { mask := BitVec.allOnes 64, value := v } }

/-- Rule R144: `RejectKey` may be any predicate on 64-bit keys; each is the `rejectKey` of a configuration. -/
theorem rejectKey_represents_every_predicate (p : Word64 → Bool) :
    ∃ c : Config, ∀ k, rejectKey c k = p k := by
  refine ⟨configOf p, fun k => ?_⟩
  rw [Bool.eq_iff_iff]
  simp only [rejectKey, configOf, List.any_map, List.any_eq_true, List.mem_filter, List.mem_map, List.mem_range,
    Function.comp, keyMatches_allOnes, beq_iff_eq]
  constructor
  · rintro ⟨v, ⟨-, hv⟩, rfl⟩
    exact hv
  · intro h
    exact ⟨k, ⟨⟨k.toNat, k.isLt, by simp⟩, h⟩, rfl⟩

end Sys2Proof.Laws
end

