-- ==== Sys2Proof/Laws/Des.lean ====
section
/-! SUPPORT. What the DES operations compute: the one law of a permutation table, and the shape of the key schedule. -/

namespace Sys2Proof.Laws

open Sys2Proof.Machine

/-- Shifting bits in one at a time: what every bit of the accumulator is afterwards. -/
theorem perm_fold_getLsbD {n m : Nat} (x : BitVec n) (table : List Nat) (acc : BitVec m) (i : Nat) (hi : i < m) :
    (table.foldl (fun (acc : BitVec m) j => (acc <<< 1) ||| (BitVec.ofBool (dbit x j)).setWidth m) acc).getLsbD i
      = if i < table.length then dbit x (table.getD (table.length - 1 - i) 0)
        else acc.getLsbD (i - table.length) := by
  induction table generalizing acc with
  | nil => simp
  | cons j js ih =>
    rw [List.foldl_cons, ih]
    by_cases h : i < js.length
    · have h' : i < (j :: js).length := by simp; omega
      have e : (j :: js).length - 1 - i = (js.length - 1 - i) + 1 := by simp; omega
      rw [if_pos h, if_pos h', e]
      simp
    · rw [if_neg h]
      by_cases h2 : i = js.length
      · subst h2
        simp
        intro hm
        omega
      · have h' : ¬ i < (j :: js).length := by simp; omega
        have hk : i - js.length ≠ 0 := by omega
        rw [if_neg h']
        simp only [BitVec.getLsbD_or, BitVec.getLsbD_shiftLeft, BitVec.getLsbD_setWidth]
        have e : i - js.length - 1 = i - (j :: js).length := by simp; omega
        have hlt : i - js.length < m := by omega
        have hz : (BitVec.ofBool (dbit x j)).getLsbD (i - js.length) = false := by
          apply BitVec.getLsbD_of_ge; omega
        have h1 : ¬ i - js.length < 1 := by omega
        simp [e, hlt, hz, h1]

/-- Rule R131: bit `i` of a permuted word, for a table of as many entries as the result has bits. -/
theorem perm_getLsbD {n m : Nat} (table : List Nat) (hm : table.length = m) (x : BitVec n) (i : Nat) (hi : i < m) :
    (perm m table x).getLsbD i = dbit x (table.getD (m - 1 - i) 0) := by
  rw [perm, perm_fold_getLsbD x table 0 i hi, if_pos (by omega), hm]

/-- Rule R131 in its own words: DES bit `j` of the result is DES bit `T[j]` of the input. -/
theorem perm_dbit {n m : Nat} (table : List Nat) (hm : table.length = m) (x : BitVec n) (j : Nat) (h1 : 1 ≤ j)
    (h2 : j ≤ m) : dbit (perm m table x) j = dbit x (table.getD (j - 1) 0) := by
  rw [dbit, perm_getLsbD table hm x (m - j) (by omega)]
  congr 2
  omega

@[simp] theorem subKeysFrom_length (ns : List Nat) (c d : BitVec 28) : (subKeysFrom ns c d).length = ns.length := by
  induction ns generalizing c d with
  | nil => rfl
  | cons n ns ih => simp [subKeysFrom, ih]

/-- There are sixteen subkeys (rule R141). -/
@[simp] theorem subKeys_length (key : Word64) : (subKeys key).length = 16 := by
  simp [subKeys, tableShifts]

/-- The Feistel rounds of two lists of subkeys, one after the other. -/
theorem desRounds_append (ks ks' : List (BitVec 48)) (lr : Word32 × Word32) :
    desRounds (ks ++ ks') lr = desRounds ks' (desRounds ks lr) := by
  induction ks generalizing lr with
  | nil => rfl
  | cons k ks ih => exact ih _

end Sys2Proof.Laws
end

