-- ==== Sys2Proof/Laws/Operands.lean ====
section
/-! SUPPORT. What the operand helpers compute: the saturating counter, the character classes, the byte strings, and the
two front-end stores. -/

namespace Sys2Proof.Laws

open Sys2Proof.Machine

theorem satSucc_toNat (c : Byte) : (satSucc c).toNat = min (c.toNat + 1) 255 := by
  simp [satSucc, cntMax]

theorem satSucc_ne_zero (c : Byte) : satSucc c ≠ 0 := by
  intro h
  have := congrArg BitVec.toNat h
  rw [satSucc_toNat] at this
  simp at this

theorem satSucc_eq_eight_iff (c : Byte) : satSucc c = 8 ↔ c = 7 := by
  rw [← BitVec.toNat_inj, ← BitVec.toNat_inj, satSucc_toNat]
  change min (c.toNat + 1) 255 = 8 ↔ c.toNat = 7
  omega

/-- The dash is no hexadecimal digit (rule R80). -/
theorem hexVal_dash : hexVal dash = none := by decide

/-- Which characters are hexadecimal digits (rule R80). -/
theorem hexVal_isSome_iff (c : Byte) :
    (hexVal c).isSome = true ↔
      (0x30 ≤ c.toNat ∧ c.toNat ≤ 0x39) ∨ (0x41 ≤ c.toNat ∧ c.toNat ≤ 0x46)
        ∨ (0x61 ≤ c.toNat ∧ c.toNat ≤ 0x66) := by
  unfold hexVal
  split_ifs <;> simp_all

@[simp] theorem beBytes_length (n v : Nat) : (beBytes n v).length = n := by simp [beBytes]

@[simp] theorem beNat_nil : beNat [] = 0 := rfl

theorem beNat_append_singleton (bs : List Byte) (b : Byte) :
    beNat (bs ++ [b]) = 256 * beNat bs + b.toNat := by simp [beNat]

/-- The serial buffer after a push: the byte at index `SCNT`, the others kept (rule R81). -/
theorem storeSerialByte_getElem (b : Byte) (n : Byte) (v : Vector Byte 12) (i : Fin 12) :
    (storeSerialByte b n v)[i] = if i.val = n.toNat then b else v[i] := by
  unfold storeSerialByte
  by_cases h : n.toNat < 12
  · simp only [h, dif_pos, Fin.getElem_fin, Vector.getElem_set]
    by_cases hi : i.val = n.toNat
    · simp [hi]
    · simp [hi, Ne.symm hi]
  · have : i.val ≠ n.toNat := by have := i.isLt; omega
    simp [h, this]

/-- A digit is shifted in while `XCNT < 16`, and nothing else is (rule R82). -/
theorem shiftNibble_of_lt {d : BitVec 4} {n : Byte} (h : n.toNat < 16) (ct : Word64) :
    shiftNibble (some d) n ct = (ct <<< 4) ||| d.setWidth 64 := if_pos h

theorem shiftNibble_of_ge {d : BitVec 4} {n : Byte} (h : 16 ≤ n.toNat) (ct : Word64) :
    shiftNibble (some d) n ct = ct := if_neg (Nat.not_lt.mpr h)

@[simp] theorem shiftNibble_none (n : Byte) (ct : Word64) : shiftNibble none n ct = ct := rfl

/-- Shifting a word left and putting a smaller one in its low bits is multiplication and addition. -/
theorem shiftLeft_or_setWidth_toNat {k : Nat} (ct : Word64) (d : BitVec k) (hk : k < 64) :
    ((ct <<< k) ||| d.setWidth 64).toNat = (ct.toNat * 2 ^ k + d.toNat) % 2 ^ 64 := by
  have hd : d.toNat < 2 ^ k := d.isLt
  have hd' : d.toNat < 2 ^ 64 := lt_trans hd (Nat.pow_lt_pow_right (by omega) hk)
  rw [BitVec.toNat_or, BitVec.toNat_shiftLeft, BitVec.toNat_setWidth, Nat.mod_eq_of_lt hd']
  apply Nat.eq_of_testBit_eq
  intro i
  rw [Nat.testBit_or, Nat.testBit_mod_two_pow, Nat.testBit_mod_two_pow, Nat.shiftLeft_eq, mul_comm,
    Nat.testBit_two_pow_mul_add _ hd, Nat.testBit_two_pow_mul]
  by_cases h1 : i < k
  · have h64 : i < 64 := by omega
    simp [h1, h64, Nat.not_le.mpr h1]
  · have hz : d.toNat.testBit i = false :=
      Nat.testBit_eq_false_of_lt (lt_of_lt_of_le hd (Nat.pow_le_pow_right (by omega) (by omega)))
    simp [h1, hz, Nat.le_of_not_lt h1]

end Sys2Proof.Laws
end

