-- ==== Sys2Proof/Laws/State.lean ====
section
/-! SUPPORT. What each shared update of the state leaves in each field, one lemma per field per update, so that no proof
unfolds a record update. PUSHX is a choice of two updates; its lemmas are stated for each choice. -/

namespace Sys2Proof.Laws

open Sys2Proof.Machine

@[simp] theorem clearClassification_ser (s : State) : (clearClassification s).ser = s.ser := rfl
@[simp] theorem clearClassification_scnt (s : State) : (clearClassification s).scnt = s.scnt := rfl
@[simp] theorem clearClassification_ct (s : State) : (clearClassification s).ct = s.ct := rfl
@[simp] theorem clearClassification_xcnt (s : State) : (clearClassification s).xcnt = s.xcnt := rfl
@[simp] theorem clearClassification_xbad (s : State) : (clearClassification s).xbad = s.xbad := rfl
@[simp] theorem clearClassification_pt (s : State) : (clearClassification s).pt = s.pt := rfl
@[simp] theorem clearClassification_pcnt (s : State) : (clearClassification s).pcnt = s.pcnt := rfl
@[simp] theorem clearClassification_pv (s : State) : (clearClassification s).pv = s.pv := rfl
@[simp] theorem clearClassification_key (s : State) : (clearClassification s).key = s.key := rfl
@[simp] theorem clearClassification_kv (s : State) : (clearClassification s).kv = s.kv := rfl
@[simp] theorem clearClassification_cls (s : State) : (clearClassification s).cls = 0 := rfl
@[simp] theorem clearClassification_msgv (s : State) : (clearClassification s).msgv = 0 := rfl
@[simp] theorem clearClassification_cv (s : State) : (clearClassification s).cv = false := rfl
@[simp] theorem clearClassification_err (s : State) : (clearClassification s).err = s.err := rfl
@[simp] theorem clearClassification_cfg (s : State) : (clearClassification s).cfg = s.cfg := rfl
@[simp] theorem clearClassification_resetLine (s : State) : (clearClassification s).resetLine = s.resetLine := rfl
@[simp] theorem clearClassification_inputs (s : State) : (clearClassification s).inputs = s.inputs := rfl

@[simp] theorem failWith_ser (cause : ErrorCause) (s : State) : (failWith cause s).ser = s.ser := rfl
@[simp] theorem failWith_scnt (cause : ErrorCause) (s : State) : (failWith cause s).scnt = s.scnt := rfl
@[simp] theorem failWith_ct (cause : ErrorCause) (s : State) : (failWith cause s).ct = s.ct := rfl
@[simp] theorem failWith_xcnt (cause : ErrorCause) (s : State) : (failWith cause s).xcnt = s.xcnt := rfl
@[simp] theorem failWith_xbad (cause : ErrorCause) (s : State) : (failWith cause s).xbad = s.xbad := rfl
@[simp] theorem failWith_pt (cause : ErrorCause) (s : State) : (failWith cause s).pt = 0 := rfl
@[simp] theorem failWith_pcnt (cause : ErrorCause) (s : State) : (failWith cause s).pcnt = 0 := rfl
@[simp] theorem failWith_pv (cause : ErrorCause) (s : State) : (failWith cause s).pv = false := rfl
@[simp] theorem failWith_key (cause : ErrorCause) (s : State) : (failWith cause s).key = 0 := rfl
@[simp] theorem failWith_kv (cause : ErrorCause) (s : State) : (failWith cause s).kv = false := rfl
@[simp] theorem failWith_cls (cause : ErrorCause) (s : State) : (failWith cause s).cls = 0 := rfl
@[simp] theorem failWith_msgv (cause : ErrorCause) (s : State) : (failWith cause s).msgv = 0 := rfl
@[simp] theorem failWith_cv (cause : ErrorCause) (s : State) : (failWith cause s).cv = false := rfl
@[simp] theorem failWith_err (cause : ErrorCause) (s : State) : (failWith cause s).err = errorCode cause := rfl
@[simp] theorem failWith_cfg (cause : ErrorCause) (s : State) : (failWith cause s).cfg = s.cfg := rfl
@[simp] theorem failWith_resetLine (cause : ErrorCause) (s : State) : (failWith cause s).resetLine = s.resetLine := rfl
@[simp] theorem failWith_inputs (cause : ErrorCause) (s : State) : (failWith cause s).inputs = s.inputs := rfl

@[simp] theorem clearUnit_ser (s : State) : (clearUnit s).ser = Vector.replicate 12 0 := rfl
@[simp] theorem clearUnit_scnt (s : State) : (clearUnit s).scnt = 0 := rfl
@[simp] theorem clearUnit_ct (s : State) : (clearUnit s).ct = 0 := rfl
@[simp] theorem clearUnit_xcnt (s : State) : (clearUnit s).xcnt = 0 := rfl
@[simp] theorem clearUnit_xbad (s : State) : (clearUnit s).xbad = false := rfl
@[simp] theorem clearUnit_pt (s : State) : (clearUnit s).pt = 0 := rfl
@[simp] theorem clearUnit_pcnt (s : State) : (clearUnit s).pcnt = 0 := rfl
@[simp] theorem clearUnit_pv (s : State) : (clearUnit s).pv = false := rfl
@[simp] theorem clearUnit_key (s : State) : (clearUnit s).key = 0 := rfl
@[simp] theorem clearUnit_kv (s : State) : (clearUnit s).kv = false := rfl
@[simp] theorem clearUnit_cls (s : State) : (clearUnit s).cls = 0 := rfl
@[simp] theorem clearUnit_msgv (s : State) : (clearUnit s).msgv = 0 := rfl
@[simp] theorem clearUnit_cv (s : State) : (clearUnit s).cv = false := rfl
@[simp] theorem clearUnit_err (s : State) : (clearUnit s).err = 0 := rfl
@[simp] theorem clearUnit_cfg (s : State) : (clearUnit s).cfg = s.cfg := rfl
@[simp] theorem clearUnit_resetLine (s : State) : (clearUnit s).resetLine = s.resetLine := rfl
@[simp] theorem clearUnit_inputs (s : State) : (clearUnit s).inputs = s.inputs := rfl

@[simp] theorem loadPlaintext_ser (p : Word64) (s : State) : (loadPlaintext p s).ser = s.ser := rfl
@[simp] theorem loadPlaintext_scnt (p : Word64) (s : State) : (loadPlaintext p s).scnt = s.scnt := rfl
@[simp] theorem loadPlaintext_ct (p : Word64) (s : State) : (loadPlaintext p s).ct = s.ct := rfl
@[simp] theorem loadPlaintext_xcnt (p : Word64) (s : State) : (loadPlaintext p s).xcnt = s.xcnt := rfl
@[simp] theorem loadPlaintext_xbad (p : Word64) (s : State) : (loadPlaintext p s).xbad = s.xbad := rfl
@[simp] theorem loadPlaintext_pt (p : Word64) (s : State) : (loadPlaintext p s).pt = p := rfl
@[simp] theorem loadPlaintext_pcnt (p : Word64) (s : State) : (loadPlaintext p s).pcnt = 8 := rfl
@[simp] theorem loadPlaintext_pv (p : Word64) (s : State) : (loadPlaintext p s).pv = true := rfl
@[simp] theorem loadPlaintext_key (p : Word64) (s : State) : (loadPlaintext p s).key = s.key := rfl
@[simp] theorem loadPlaintext_kv (p : Word64) (s : State) : (loadPlaintext p s).kv = s.kv := rfl
@[simp] theorem loadPlaintext_cls (p : Word64) (s : State) : (loadPlaintext p s).cls = 0 := rfl
@[simp] theorem loadPlaintext_msgv (p : Word64) (s : State) : (loadPlaintext p s).msgv = 0 := rfl
@[simp] theorem loadPlaintext_cv (p : Word64) (s : State) : (loadPlaintext p s).cv = false := rfl
@[simp] theorem loadPlaintext_err (p : Word64) (s : State) : (loadPlaintext p s).err = s.err := rfl
@[simp] theorem loadPlaintext_cfg (p : Word64) (s : State) : (loadPlaintext p s).cfg = s.cfg := rfl
@[simp] theorem loadPlaintext_resetLine (p : Word64) (s : State) : (loadPlaintext p s).resetLine = s.resetLine := rfl
@[simp] theorem loadPlaintext_inputs (p : Word64) (s : State) : (loadPlaintext p s).inputs = s.inputs := rfl

@[simp] theorem loadKey_ser (k : Word64) (s : State) : (loadKey k s).ser = s.ser := rfl
@[simp] theorem loadKey_scnt (k : Word64) (s : State) : (loadKey k s).scnt = s.scnt := rfl
@[simp] theorem loadKey_ct (k : Word64) (s : State) : (loadKey k s).ct = s.ct := rfl
@[simp] theorem loadKey_xcnt (k : Word64) (s : State) : (loadKey k s).xcnt = s.xcnt := rfl
@[simp] theorem loadKey_xbad (k : Word64) (s : State) : (loadKey k s).xbad = s.xbad := rfl
@[simp] theorem loadKey_pt (k : Word64) (s : State) : (loadKey k s).pt = s.pt := rfl
@[simp] theorem loadKey_pcnt (k : Word64) (s : State) : (loadKey k s).pcnt = s.pcnt := rfl
@[simp] theorem loadKey_pv (k : Word64) (s : State) : (loadKey k s).pv = s.pv := rfl
@[simp] theorem loadKey_key (k : Word64) (s : State) : (loadKey k s).key = k := rfl
@[simp] theorem loadKey_kv (k : Word64) (s : State) : (loadKey k s).kv = true := rfl
@[simp] theorem loadKey_cls (k : Word64) (s : State) : (loadKey k s).cls = s.cls := rfl
@[simp] theorem loadKey_msgv (k : Word64) (s : State) : (loadKey k s).msgv = s.msgv := rfl
@[simp] theorem loadKey_cv (k : Word64) (s : State) : (loadKey k s).cv = s.cv := rfl
@[simp] theorem loadKey_err (k : Word64) (s : State) : (loadKey k s).err = s.err := rfl
@[simp] theorem loadKey_cfg (k : Word64) (s : State) : (loadKey k s).cfg = s.cfg := rfl
@[simp] theorem loadKey_resetLine (k : Word64) (s : State) : (loadKey k s).resetLine = s.resetLine := rfl
@[simp] theorem loadKey_inputs (k : Word64) (s : State) : (loadKey k s).inputs = s.inputs := rfl

@[simp] theorem pushSerialByte_ser (b : Byte) (s : State) : (pushSerialByte b s).ser = storeSerialByte b s.scnt s.ser := rfl
@[simp] theorem pushSerialByte_scnt (b : Byte) (s : State) : (pushSerialByte b s).scnt = satSucc s.scnt := rfl
@[simp] theorem pushSerialByte_ct (b : Byte) (s : State) : (pushSerialByte b s).ct = s.ct := rfl
@[simp] theorem pushSerialByte_xcnt (b : Byte) (s : State) : (pushSerialByte b s).xcnt = s.xcnt := rfl
@[simp] theorem pushSerialByte_xbad (b : Byte) (s : State) : (pushSerialByte b s).xbad = s.xbad := rfl
@[simp] theorem pushSerialByte_pt (b : Byte) (s : State) : (pushSerialByte b s).pt = s.pt := rfl
@[simp] theorem pushSerialByte_pcnt (b : Byte) (s : State) : (pushSerialByte b s).pcnt = s.pcnt := rfl
@[simp] theorem pushSerialByte_pv (b : Byte) (s : State) : (pushSerialByte b s).pv = s.pv := rfl
@[simp] theorem pushSerialByte_key (b : Byte) (s : State) : (pushSerialByte b s).key = 0 := rfl
@[simp] theorem pushSerialByte_kv (b : Byte) (s : State) : (pushSerialByte b s).kv = false := rfl
@[simp] theorem pushSerialByte_cls (b : Byte) (s : State) : (pushSerialByte b s).cls = s.cls := rfl
@[simp] theorem pushSerialByte_msgv (b : Byte) (s : State) : (pushSerialByte b s).msgv = s.msgv := rfl
@[simp] theorem pushSerialByte_cv (b : Byte) (s : State) : (pushSerialByte b s).cv = s.cv := rfl
@[simp] theorem pushSerialByte_err (b : Byte) (s : State) : (pushSerialByte b s).err = s.err := rfl
@[simp] theorem pushSerialByte_cfg (b : Byte) (s : State) : (pushSerialByte b s).cfg = s.cfg := rfl
@[simp] theorem pushSerialByte_resetLine (b : Byte) (s : State) : (pushSerialByte b s).resetLine = s.resetLine := rfl
@[simp] theorem pushSerialByte_inputs (b : Byte) (s : State) : (pushSerialByte b s).inputs = s.inputs := rfl

@[simp] theorem pushPlainByte_ser (b : Byte) (s : State) : (pushPlainByte b s).ser = s.ser := rfl
@[simp] theorem pushPlainByte_scnt (b : Byte) (s : State) : (pushPlainByte b s).scnt = s.scnt := rfl
@[simp] theorem pushPlainByte_ct (b : Byte) (s : State) : (pushPlainByte b s).ct = s.ct := rfl
@[simp] theorem pushPlainByte_xcnt (b : Byte) (s : State) : (pushPlainByte b s).xcnt = s.xcnt := rfl
@[simp] theorem pushPlainByte_xbad (b : Byte) (s : State) : (pushPlainByte b s).xbad = s.xbad := rfl
@[simp] theorem pushPlainByte_pt (b : Byte) (s : State) : (pushPlainByte b s).pt = (s.pt <<< 8) ||| b.setWidth 64 := rfl
@[simp] theorem pushPlainByte_pcnt (b : Byte) (s : State) : (pushPlainByte b s).pcnt = satSucc s.pcnt := rfl
@[simp] theorem pushPlainByte_pv (b : Byte) (s : State) : (pushPlainByte b s).pv = ((satSucc s.pcnt).toNat == blockLen) := rfl
@[simp] theorem pushPlainByte_key (b : Byte) (s : State) : (pushPlainByte b s).key = s.key := rfl
@[simp] theorem pushPlainByte_kv (b : Byte) (s : State) : (pushPlainByte b s).kv = s.kv := rfl
@[simp] theorem pushPlainByte_cls (b : Byte) (s : State) : (pushPlainByte b s).cls = 0 := rfl
@[simp] theorem pushPlainByte_msgv (b : Byte) (s : State) : (pushPlainByte b s).msgv = 0 := rfl
@[simp] theorem pushPlainByte_cv (b : Byte) (s : State) : (pushPlainByte b s).cv = false := rfl
@[simp] theorem pushPlainByte_err (b : Byte) (s : State) : (pushPlainByte b s).err = s.err := rfl
@[simp] theorem pushPlainByte_cfg (b : Byte) (s : State) : (pushPlainByte b s).cfg = s.cfg := rfl
@[simp] theorem pushPlainByte_resetLine (b : Byte) (s : State) : (pushPlainByte b s).resetLine = s.resetLine := rfl
@[simp] theorem pushPlainByte_inputs (b : Byte) (s : State) : (pushPlainByte b s).inputs = s.inputs := rfl

/-- A dash changes nothing (rule R82). -/
@[simp] theorem pushXvalChar_dash (s : State) : pushXvalChar dash s = s := if_pos rfl

@[simp] theorem pushXvalChar_ser (c : Byte) (s : State) : (pushXvalChar c s).ser = s.ser := by
  unfold pushXvalChar; split <;> rfl

@[simp] theorem pushXvalChar_scnt (c : Byte) (s : State) : (pushXvalChar c s).scnt = s.scnt := by
  unfold pushXvalChar; split <;> rfl

theorem pushXvalChar_ct {c : Byte} (hc : c ≠ dash) (s : State) :
    (pushXvalChar c s).ct = shiftNibble (hexVal c) s.xcnt s.ct := by
  rw [pushXvalChar, if_neg hc]

theorem pushXvalChar_xcnt {c : Byte} (hc : c ≠ dash) (s : State) :
    (pushXvalChar c s).xcnt = satSucc s.xcnt := by
  rw [pushXvalChar, if_neg hc]

theorem pushXvalChar_xbad {c : Byte} (hc : c ≠ dash) (s : State) :
    (pushXvalChar c s).xbad = (s.xbad || (hexVal c).isNone) := by
  rw [pushXvalChar, if_neg hc]

@[simp] theorem pushXvalChar_pt (c : Byte) (s : State) : (pushXvalChar c s).pt = s.pt := by
  unfold pushXvalChar; split <;> rfl

@[simp] theorem pushXvalChar_pcnt (c : Byte) (s : State) : (pushXvalChar c s).pcnt = s.pcnt := by
  unfold pushXvalChar; split <;> rfl

@[simp] theorem pushXvalChar_pv (c : Byte) (s : State) : (pushXvalChar c s).pv = s.pv := by
  unfold pushXvalChar; split <;> rfl

@[simp] theorem pushXvalChar_key (c : Byte) (s : State) : (pushXvalChar c s).key = s.key := by
  unfold pushXvalChar; split <;> rfl

@[simp] theorem pushXvalChar_kv (c : Byte) (s : State) : (pushXvalChar c s).kv = s.kv := by
  unfold pushXvalChar; split <;> rfl

@[simp] theorem pushXvalChar_cls (c : Byte) (s : State) : (pushXvalChar c s).cls = s.cls := by
  unfold pushXvalChar; split <;> rfl

@[simp] theorem pushXvalChar_msgv (c : Byte) (s : State) : (pushXvalChar c s).msgv = s.msgv := by
  unfold pushXvalChar; split <;> rfl

@[simp] theorem pushXvalChar_cv (c : Byte) (s : State) : (pushXvalChar c s).cv = s.cv := by
  unfold pushXvalChar; split <;> rfl

@[simp] theorem pushXvalChar_err (c : Byte) (s : State) : (pushXvalChar c s).err = s.err := by
  unfold pushXvalChar; split <;> rfl

@[simp] theorem pushXvalChar_cfg (c : Byte) (s : State) : (pushXvalChar c s).cfg = s.cfg := by
  unfold pushXvalChar; split <;> rfl

@[simp] theorem pushXvalChar_resetLine (c : Byte) (s : State) : (pushXvalChar c s).resetLine = s.resetLine := by
  unfold pushXvalChar; split <;> rfl

@[simp] theorem pushXvalChar_inputs (c : Byte) (s : State) : (pushXvalChar c s).inputs = s.inputs := by
  unfold pushXvalChar; split <;> rfl

end Sys2Proof.Laws
end

