-- ==== Sys2Proof/Laws/Ops.lean ====
section
/-! SUPPORT. What each shared operation and each meaning can do, said once: the error gate, the error entry, and the one
successor of every command. -/

namespace Sys2Proof.Laws

open Sys2Proof.Machine

theorem unlessError_of_eq_zero {s : State} (h : s.err = 0) (act : State → State) :
    unlessError act s = act s := if_pos h

theorem unlessError_of_ne_zero {s : State} (h : s.err ≠ 0) (act : State → State) :
    unlessError act s = s := if_neg h

/-- The gate either runs the action, with no error recorded, or changes nothing (rule R203). -/
theorem unlessError_cases (act : State → State) (s : State) :
    (s.err = 0 ∧ unlessError act s = act s) ∨ (s.err ≠ 0 ∧ unlessError act s = s) := by
  by_cases h : s.err = 0
  · exact .inl ⟨h, unlessError_of_eq_zero h act⟩
  · exact .inr ⟨h, unlessError_of_ne_zero h act⟩

/-- Every error code is non-zero (rule R201). -/
theorem errorCode_ne_zero (cause : ErrorCause) : errorCode cause ≠ 0 := by cases cause <;> decide

/-- KDF loads the derived key or fails with `E_SERIAL` (rule R112). -/
theorem deriveKey_cases (s : State) :
    (s.svalid = true ∧ deriveKey s = loadKey (kdf s.ser) s)
      ∨ (s.svalid = false ∧ deriveKey s = failWith .serial s) := by
  unfold deriveKey
  cases s.svalid <;> simp

/-- DEC's four outcomes, in the order of its tests (rules R145 and R205). -/
theorem decryptBlock_cases (s : State) :
    (s.xvalid = false ∧ decryptBlock s = failWith .xval s)
      ∨ (s.xvalid = true ∧ s.kv = false ∧ decryptBlock s = failWith .noKey s)
      ∨ (s.xvalid = true ∧ s.kv = true ∧ rejectKey s.cfg s.key = true ∧ decryptBlock s = failWith .crypto s)
      ∨ (s.xvalid = true ∧ s.kv = true ∧ rejectKey s.cfg s.key = false
          ∧ decryptBlock s = loadPlaintext (desDec s.key s.ct) s) := by
  unfold decryptBlock
  cases s.xvalid <;> cases s.kv <;> cases rejectKey s.cfg s.key <;> simp

/-- DECRYPT's four outcomes, in the order of its tests (rules R160 and R205). -/
theorem deriveAndDecrypt_cases (s : State) :
    (s.xvalid = false ∧ deriveAndDecrypt s = failWith .xval s)
      ∨ (s.xvalid = true ∧ s.svalid = false ∧ deriveAndDecrypt s = failWith .serial s)
      ∨ (s.xvalid = true ∧ s.svalid = true ∧ rejectKey s.cfg (kdf s.ser) = true
          ∧ deriveAndDecrypt s = failWith .crypto s)
      ∨ (s.xvalid = true ∧ s.svalid = true ∧ rejectKey s.cfg (kdf s.ser) = false
          ∧ deriveAndDecrypt s = loadPlaintext (desDec (kdf s.ser) s.ct) (loadKey (kdf s.ser) s)) := by
  unfold deriveAndDecrypt
  cases s.xvalid <;> cases s.svalid <;> cases h : rejectKey s.cfg (kdf s.ser) <;> simp [h]

/-- CLS writes the classification or fails with `E_PLEN` (rule R187). -/
theorem classifyPlaintext_cases (s : State) :
    (s.pv = true ∧ classifyPlaintext s
        = { s with cls := (classify s.pt).1, msgv := (classify s.pt).2, cv := true })
      ∨ (s.pv = false ∧ classifyPlaintext s = failWith .pLen s) := by
  unfold classifyPlaintext
  cases s.pv <;> simp

/-- What a command does to the state while `ERR = 0`. -/
def commandEffect : Instr → State → State
  | .nop => id
  | .clr => clearUnit
  | .pushs b => pushSerialByte b
  | .pushx c => pushXvalChar c
  | .pushp b => pushPlainByte b
  | .kdf => deriveKey
  | .dec => decryptBlock
  | .cls => classifyPlaintext
  | .decrypt => deriveAndDecrypt

/-- Every command but CLR is its effect behind the error gate (rule R203). -/
theorem exec_eq_unlessError {i : Instr} (h : i ≠ .clr) (s : State) :
    exec i s = .next (unlessError (commandEffect i) s) := by
  cases i
  case clr => exact absurd rfl h
  case nop => rcases unlessError_cases id s with ⟨-, e⟩ | ⟨-, e⟩ <;> simp [exec, execNop, commandEffect, e]
  all_goals rfl

/-- CLR clears the unit in every state (rule R163). -/
theorem exec_clr (s : State) : exec .clr s = .next (clearUnit s) := rfl

/-- What a command's effect leaves of the host's side of the state. -/
theorem commandEffect_host (i : Instr) (s : State) :
    (commandEffect i s).cfg = s.cfg ∧ (commandEffect i s).resetLine = s.resetLine
      ∧ (commandEffect i s).inputs = s.inputs := by
  cases i with
  | nop => exact ⟨rfl, rfl, rfl⟩
  | clr => exact ⟨rfl, rfl, rfl⟩
  | pushs b => exact ⟨rfl, rfl, rfl⟩
  | pushx c => simp [commandEffect]
  | pushp b => exact ⟨rfl, rfl, rfl⟩
  | kdf => rcases deriveKey_cases s with ⟨-, e⟩ | ⟨-, e⟩ <;> simp [commandEffect, e]
  | dec =>
    rcases decryptBlock_cases s with ⟨-, e⟩ | ⟨-, -, e⟩ | ⟨-, -, -, e⟩ | ⟨-, -, -, e⟩ <;> simp [commandEffect, e]
  | cls => rcases classifyPlaintext_cases s with ⟨-, e⟩ | ⟨-, e⟩ <;> simp [commandEffect, e]
  | decrypt =>
    rcases deriveAndDecrypt_cases s with ⟨-, e⟩ | ⟨-, -, e⟩ | ⟨-, -, -, e⟩ | ⟨-, -, -, e⟩ <;> simp [commandEffect, e]

/-- Every command has a next state, and leaves the host's side of it alone. -/
theorem exec_next (i : Instr) (s : State) :
    ∃ t, exec i s = .next t ∧ t.cfg = s.cfg ∧ t.resetLine = s.resetLine ∧ t.inputs = s.inputs := by
  by_cases h : i = .clr
  · subst h
    exact ⟨_, exec_clr s, rfl, rfl, rfl⟩
  · refine ⟨_, exec_eq_unlessError h s, ?_⟩
    rcases unlessError_cases (commandEffect i) s with ⟨-, e⟩ | ⟨-, e⟩ <;> rw [e]
    · exact commandEffect_host i s
    · exact ⟨rfl, rfl, rfl⟩

end Sys2Proof.Laws
end

