-- ==== Sys2Proof/Laws/PerInstr.lean ====
section
/-! SUPPORT. Statements about every instruction as syntax, one lemma per constructor: the word of a command carries its
row's match pattern under its row's mask, and its fields are well-formed (spec/30_encoding.md rules R62 and R64). -/

namespace Sys2Proof.Laws.EncodesItsRow

/-- The word of a command selects its own row of the opcode map, and its fields pass the check of rule R64. -/
abbrev Statement (i : Instr) : Prop := selectsRow (encode i) i = true ∧ (fieldsOf (encode i)).wellFormed = true

theorem nop : Statement .nop := by decide

theorem clr : Statement .clr := by decide

theorem pushs (b : Byte) : Statement (.pushs b) := by revert b; decide +kernel

theorem pushx (c : Byte) : Statement (.pushx c) := by revert c; decide +kernel

theorem pushp (b : Byte) : Statement (.pushp b) := by revert b; decide +kernel

theorem kdf : Statement .kdf := by decide

theorem dec : Statement .dec := by decide

theorem cls : Statement .cls := by decide

theorem decrypt : Statement .decrypt := by decide

end Sys2Proof.Laws.EncodesItsRow
end

