-- ==== Sys2Proof/Laws/Port.lean ====
section
/-! SUPPORT. What a step is, by the host's next event. -/

namespace Sys2Proof.Laws

open Sys2Proof.Machine

/-- With no event waiting a step changes nothing (rule R237). -/
theorem step_idle {s : State} (h : s.inputs = []) : step s = .next s := by
  simp [step, takeNext, h]

/-- With an event waiting a step is that event, taken out of the queue (rule R46). -/
theorem step_event {s : State} {e : HostEvent} {rest : List HostEvent} (h : s.inputs = e :: rest) :
    step s = takeEvent e { s with inputs := rest } := by
  simp [step, takeNext, h]

/-- A command word is executed while the reset input is released (rule R230). -/
theorem takeEvent_command {s : State} (h : s.resetLine = false) (w : Word16) :
    takeEvent (.command w) s = takeCommand w s := by
  simp [takeEvent, h]

/-- A placed table word is what the next step executes. -/
theorem step_withFetchWord (s : State) (nbits w : Nat) :
    step (s.withFetchWord nbits w)
      = takeCommand (tableCommandWord nbits w) { s with resetLine := false } := rfl

end Sys2Proof.Laws
end

