-- ==== Sys2Proof/Laws/Sha1.lean ====
section
/-! SUPPORT. The sizes that SHA-1 and HMAC keep: the schedule, the padding, the digest and the key block. -/

namespace Sys2Proof.Laws

open Sys2Proof.Machine

@[simp] theorem sha1BlockWords_length (block : List Byte) : (sha1BlockWords block).length = 16 := by
  simp [sha1BlockWords]

@[simp] theorem sha1Extend_length (n : Nat) (ws : List Word32) : (sha1Extend n ws).length = n + ws.length := by
  induction n generalizing ws with
  | zero => simp [sha1Extend]
  | succ n ih => rw [sha1Extend, ih]; simp; omega

/-- A schedule has eighty words (rule R104). -/
@[simp] theorem sha1Schedule_length (block : List Byte) : (sha1Schedule block).length = 80 := by
  simp [sha1Schedule]

/-- A padded message is a whole number of 64-byte blocks (rule R105). -/
theorem sha1Pad_length_mod (m : List Byte) : (sha1Pad m).length % 64 = 0 := by
  simp only [sha1Pad, sha1PadZeros, List.length_append, List.length_cons, List.length_replicate, beBytes_length]
  omega

/-- The padded length is `64·⌈(n + 9)/64⌉` (rule R105). -/
theorem sha1Pad_length (m : List Byte) : (sha1Pad m).length = 64 * ((m.length + 9 + 63) / 64) := by
  simp only [sha1Pad, sha1PadZeros, List.length_append, List.length_cons, List.length_replicate, beBytes_length]
  omega

/-- A digest has twenty bytes (rules R107 and R108). -/
@[simp] theorem sha1_length (m : List Byte) : (sha1 m).length = 20 := by simp [sha1, sha1Digest]

/-- The key block of HMAC has 64 bytes (rule R109). -/
@[simp] theorem hmacKeyBlock_length (key : List Byte) : (hmacKeyBlock key).length = 64 := by
  unfold hmacKeyBlock hmacBlockSize
  simp only [List.length_append, List.length_replicate]
  split
  · simp
  · omega

/-- "HMAC-SHA1 always yields 20 bytes" (rule R108). -/
@[simp] theorem hmacSha1_length (key msg : List Byte) : (hmacSha1 key msg).length = 20 := by simp [hmacSha1]

end Sys2Proof.Laws
end

