-- ==== Sys2Proof/Tests/Slice0.lean ====
section
/-! SUPPORT. The session's own tests: the smoke test of every well-formedness check, words written out from the encoding
of spec/30_encoding.md, the vectors of spec/95_test_vectors.md one step at a time, and for every obligation with
hypotheses a state and operands that meet them. Expected values are the spec's. -/

namespace Sys2Proof.Tests

open Sys2Proof.Machine

/-! ## Well-formedness: each check refuses an ill-formed term -/

theorem test_undefined_opcode_is_ill_formed :
    CommandFields.wellFormed { op := 0x24, imm8 := 0x00 } = false := by decide

theorem test_operand_of_a_plain_command_is_ill_formed :
    CommandFields.wellFormed { op := 0x23, imm8 := 0x01 } = false := by decide

theorem test_legal_fields_are_well_formed :
    CommandFields.wellFormed { op := 0x23, imm8 := 0x00 } = true
      ∧ CommandFields.wellFormed { op := 0x12, imm8 := 0xFF } = true := by decide

theorem test_script_push_operand_out_of_range : (Statement.push .serial 256).wellFormed = false := by decide

theorem test_script_word_out_of_range : (Statement.word 65536).wellFormed = false := by decide

theorem test_script_string_out_of_range :
    (Statement.serialText [256]).wellFormed = false ∧ (Statement.xvalText [256]).wellFormed = false
      ∧ (Statement.xvalPair [48] [256]).wellFormed = false := by decide

theorem test_script_digits_out_of_range :
    (Statement.plainDigits [1, 2, 3]).wellFormed = false ∧ (Statement.plainDigits [1, 16]).wellFormed = false := by decide

theorem test_script_bare_operand_command : (Statement.bare (.pushs 1)).wellFormed = false := by decide

/-! ## Decoding: words written out bit by bit from rules R60 and R62 -/

theorem test_decode_nop : decode 0b0000000000000000 = .ok .nop := by decide

theorem test_decode_clr : decode 0b0000000100000000 = .ok .clr := by decide

theorem test_decode_pushs : decode 0b0001000000110000 = .ok (.pushs 0x30) := by decide

theorem test_decode_pushx : decode 0b0001000100101101 = .ok (.pushx 0x2D) := by decide

theorem test_decode_pushp : decode 0b0001001011111111 = .ok (.pushp 0xFF) := by decide

theorem test_decode_kdf : decode 0b0010000000000000 = .ok .kdf := by decide

theorem test_decode_dec : decode 0b0010000100000000 = .ok .dec := by decide

theorem test_decode_cls : decode 0b0010001000000000 = .ok .cls := by decide

theorem test_decode_decrypt : decode 0b0010001100000000 = .ok .decrypt := by decide

/-- The illegal words of V80. -/
theorem test_decode_illegal :
    decode 0x0001 = .error (.nonzeroImmediate 0x00 0x01) ∧ decode 0x0101 = .error (.nonzeroImmediate 0x01 0x01)
      ∧ decode 0x0200 = .error (.undefinedOpcode 0x02) ∧ decode 0x13FF = .error (.undefinedOpcode 0x13)
      ∧ decode 0x2301 = .error (.nonzeroImmediate 0x23 0x01) ∧ decode 0xFFFF = .error (.undefinedOpcode 0xFF) := by
  decide

theorem test_table_word : decodeTableWord 16 0x1030 = some (.pushs 0x30) ∧ decodeTableWord 16 0x2301 = none := by decide

theorem test_fetch_word_runs_first :
    step (State.reset.withFetchWord 16 0x1030) = exec (.pushs 0x30) State.reset := rfl

/-! ## The function blocks -/

/-- Rule R107, V20. -/
theorem test_sha1_empty : beNat (sha1 []) = 0xDA39A3EE5E6B4B0D3255BFEF95601890AFD80709 := by decide +kernel

/-- Rule R107, V21. -/
theorem test_sha1_abc : beNat (sha1 [0x61, 0x62, 0x63]) = 0xA9993E364706816ABA3E25717850C26C9CD0D89D := by
  decide +kernel

/-- The serial of V1, `031897772807`. -/
def exampleSerial : Vector Byte 12 :=
  #v[0x30, 0x33, 0x31, 0x38, 0x39, 0x37, 0x37, 0x37, 0x32, 0x38, 0x30, 0x37]

/-- V22, through the four fixed blocks. -/
theorem test_kdf_four_blocks : kdfFourBlocks exampleSerial = 0xB8202829418B04AA := by decide +kernel

/-- V30, the classical vector: encryption, the first and the last subkey. -/
theorem test_des_classical :
    desEnc 0x133457799BBCDFF1 0x0123456789ABCDEF = 0x85E813540F0AB405
      ∧ (subKeys 0x133457799BBCDFF1)[0]? = some 0x1B02EFFC7072
      ∧ (subKeys 0x133457799BBCDFF1)[15]? = some 0xCB3D8B0E17F5 := by decide +kernel

/-- V33, one evaluation of `F`. -/
theorem test_des_round : desF 0x6F60E751 0x5A2A4068450A = 0xE8201C40 := by decide +kernel

/-- Rule R136 prints the boxes twice; row 0 of the flattened form of `S1` and of `S8`. -/
theorem test_sboxes_flattened :
    ((List.range 64).map fun v => (sBox tableS1 (BitVec.ofNat 6 v)).toNat)
        = [0xE, 0x0, 0x4, 0xF, 0xD, 0x7, 0x1, 0x4, 0x2, 0xE, 0xF, 0x2, 0xB, 0xD, 0x8, 0x1, 0x3, 0xA, 0xA, 0x6, 0x6, 0xC,
            0xC, 0xB, 0x5, 0x9, 0x9, 0x5, 0x0, 0x3, 0x7, 0x8, 0x4, 0xF, 0x1, 0xC, 0xE, 0x8, 0x8, 0x2, 0xD, 0x4, 0x6, 0x9,
            0x2, 0x1, 0xB, 0x7, 0xF, 0x5, 0xC, 0xB, 0x9, 0x3, 0x7, 0xE, 0x3, 0xA, 0xA, 0x0, 0x5, 0x6, 0x0, 0xD]
      ∧ ((List.range 64).map fun v => (sBox tableS8 (BitVec.ofNat 6 v)).toNat)
        = [0xD, 0x1, 0x2, 0xF, 0x8, 0xD, 0x4, 0x8, 0x6, 0xA, 0xF, 0x3, 0xB, 0x7, 0x1, 0x4, 0xA, 0xC, 0x9, 0x5, 0x3, 0x6,
            0xE, 0xB, 0x5, 0x0, 0x0, 0xE, 0xC, 0x9, 0x7, 0x2, 0x7, 0x2, 0xB, 0x1, 0x4, 0xE, 0x1, 0x7, 0x9, 0x4, 0xC, 0xA,
            0xE, 0x8, 0x2, 0xD, 0x0, 0xF, 0x6, 0xC, 0xA, 0x9, 0xD, 0x0, 0xF, 0x3, 0x3, 0x5, 0x5, 0x6, 0x8, 0xB] := by
  decide +kernel

/-- V50 to V54, V63, V68 and V69: the corners of the classifier. -/
theorem test_classify_corners :
    classify 0 = (1, 0x2000) ∧ classify 0xFFFFFFFFFFFFFFFF = (2, 0x4000) ∧ classify 0xFFFFFFFFFFFFFFFE = (3, 0x8000)
      ∧ classify 0x0000000100000001 = (3, 0x8000) ∧ classify 0x00000000FFFFFFFF = (4, 0x1FFF)
      ∧ classify 0x0000000000007FFF = (4, 0x0FFF) ∧ classify 0x000000000000F000 = (4, 0x1000)
      ∧ classify 0xFFFFFFFF00000000 = (4, 0) ∧ classify 0x0000000000007000 = (4, 0) := by decide

/-- V65 and V55: the output list, and V73: the message ROM. -/
theorem test_messages :
    messages 0x00C0 = [messageBytes 6, messageBytes 6]
      ∧ (messageBytes 10).map BitVec.toNat = codes "Console is banned"
      ∧ msgLen 10 = 17 ∧ msgByte 10 0 = 0x43 ∧ msgByte 10 16 = 0x64 ∧ msgByte 10 17 = 0 ∧ msgByte 12 19 = 0x29 := by
  decide +kernel

/-- V11: the characters next to the digit classes are no digits. -/
theorem test_hexVal_neighbours :
    ([0x2F, 0x3A, 0x40, 0x47, 0x60, 0x67, 0x2D, 0x20, 0x00, 0xFF, 0x78, 0x0A] : List Byte).map hexVal
        = List.replicate 12 none
      ∧ ([0x30, 0x39, 0x41, 0x46, 0x61, 0x66] : List Byte).map hexVal
        = [some 0, some 9, some 10, some 15, some 10, some 15] := by decide

/-- Rule R67's three examples, and rule R66's. -/
theorem test_assembler_examples :
    assembleText "SERIAL \"03\" ; two bytes\nXVALTXT \"A-1\"\n\nPLAIN 0001"
        = some [0x1030, 0x1033, 0x1141, 0x112D, 0x1131, 0x1200, 0x1201]
      ∧ assembleText "PUSHS '0'\nPUSHX 0x2D\nPUSHP 0xFF\nDECRYPT\nWORD 0x2301"
        = some [0x1030, 0x112D, 0x12FF, 0x2300, 0x2301] := by decide +kernel

/-- Log entry 11: the quote character, the quoted semicolon and the semicolon of a string, each with a comment after. -/
theorem test_quotes_and_comments :
    assembleText "PUSHS ''' ; it's\nPUSHX ';' ; \"\nPUSHP '\"' ; c\nSERIAL \"';\" ; d"
      = some [0x1027, 0x113B, 0x1222, 0x1027, 0x103B] := by decide +kernel


/-! ## One step of each command -/

/-- The state a step leaves, the reset state where it leaves none. -/
def after (o : Host.Outcome State Fault Refusal) : State := stateAfter State.reset o

/-- The operands of V1 pushed: the serial and `DA9CDC8443A9BB4C`. -/
def loaded : State :=
  { State.reset with ser := exampleSerial, scnt := 12, ct := 0xDA9CDC8443A9BB4C, xcnt := 16 }

/-- The same after KDF (V36). -/
def keyed : State := { loaded with key := 0xB8202829418B04AA, kv := true }

/-- The same after DEC (V36). -/
def decrypted : State := { keyed with pt := 0x400, pcnt := 8, pv := true }

/-- The error state of V81. -/
def failed : State := { State.reset with err := 6 }

theorem test_nop_in_the_error_state : after (exec .nop failed) = failed := by decide

theorem test_clr_leaves_the_error_state :
    after (exec .clr failed) = State.reset ∧ after (exec .clr decrypted) = State.reset := by decide

/-- V14: the first byte; a thirteenth byte is counted and discards the key. -/
theorem test_pushs :
    (after (exec (.pushs 0x30) State.reset)).ser[0] = 0x30 ∧ (after (exec (.pushs 0x30) State.reset)).scnt = 1
      ∧ after (exec (.pushs 0x30) keyed) = { loaded with scnt := 13 } := by decide

theorem test_pushs_saturates : (after (exec (.pushs 0x41) { loaded with scnt := 255 })).scnt = 255 := by decide

/-- V12: digits, the dash, and a character that is no digit. -/
theorem test_pushx :
    after (exec (.pushx 0x39) { State.reset with ct := 0xDA, xcnt := 2 })
        = { State.reset with ct := 0xDA9, xcnt := 3 }
      ∧ after (exec (.pushx 0x2D) { State.reset with ct := 0xDA, xcnt := 2 })
        = { State.reset with ct := 0xDA, xcnt := 2 }
      ∧ after (exec (.pushx 0x47) { State.reset with ct := 0xDA9C, xcnt := 4 })
        = { State.reset with ct := 0xDA9C, xcnt := 5, xbad := true } := by decide

/-- V43: the seventeenth digit. -/
theorem test_pushx_seventeenth : after (exec (.pushx 0x30) loaded) = { loaded with xcnt := 17 } := by decide

/-- V15 and P7: the eighth byte makes `PT` valid, the ninth spoils it. -/
theorem test_pushp :
    after (exec (.pushp 0x08) { State.reset with pt := 0x0001020304050607, pcnt := 7 })
        = { State.reset with pt := 0x0102030405060708, pcnt := 8, pv := true }
      ∧ after (exec (.pushp 0x00) { decrypted with cls := 4, msgv := 0x0400, cv := true })
        = { keyed with pt := 0x40000, pcnt := 9 } := by decide

/-- V24. -/
theorem test_kdf : after (exec .kdf loaded) = keyed := by decide +kernel

/-- V3: a serial of eleven bytes. -/
theorem test_kdf_wrong_length :
    after (exec .kdf { loaded with scnt := 11 }) = { loaded with scnt := 11, err := 2 } := by decide

/-- V36. -/
theorem test_dec : after (exec .dec keyed) = decrypted := by decide +kernel

/-- V36 and V37: no key; a key the cipher refuses. -/
theorem test_dec_fails :
    after (exec .dec loaded) = { loaded with err := 5 }
      ∧ after (exec .dec { keyed with cfg := Config.alwaysRejects })
        = { loaded with cfg := Config.alwaysRejects, err := 3 } := by decide

/-- V40: RESULT after CLS. -/
theorem test_cls :
    after (exec .cls decrypted) = { decrypted with cls := 4, msgv := 0x0400, cv := true }
      ∧ (after (exec .cls decrypted)).result = 0x00040400 := by decide

/-- P7: CLS without a plaintext of eight bytes clears the key too. -/
theorem test_cls_fails : after (exec .cls keyed) = { loaded with err := 6 } := by decide

/-- V1: the worked example as one command. -/
theorem test_decrypt : after (exec .decrypt loaded) = decrypted := by decide +kernel

/-- V41: the xval is judged before the serial. -/
theorem test_decrypt_order :
    (after (exec .decrypt State.reset)).status = 0x00000101
      ∧ (after (exec .decrypt { loaded with scnt := 11 })).status = 0x00000241 := by decide

/-- V40: the register reads after DECRYPT. -/
theorem test_reads :
    decrypted.status = 0x00000066 ∧ decrypted.counts = 0x0008100C ∧ rd decrypted 2 = 0xB8202829
      ∧ rd decrypted 7 = 0x43A9BB4C ∧ rd decrypted 9 = 0x30333138 ∧ rd decrypted 11 = 0x32383037
      ∧ rd decrypted 31 = 0 := by decide

/-- V80: an illegal word in a step, and V81: in the error state. -/
theorem test_illegal_word :
    (after (step (writeFirst 0x2301 State.reset))).status = 0x00000701
      ∧ after (step (writeFirst 0x2301 failed)) = failed := by decide

/-- Rule R230: reset asserted, a word written meanwhile, and reset released. -/
theorem test_reset_input :
    after (takeEvent .assertReset decrypted) = { State.reset with resetLine := true }
      ∧ after (takeEvent (.command 0x1030) { State.reset with resetLine := true })
        = { State.reset with resetLine := true }
      ∧ after (takeEvent .releaseReset { State.reset with resetLine := true }) = State.reset := by decide

/-! ## Witnesses: the hypotheses of each obligation are met together -/

theorem witness_EncodedCommandDecodesToItself : (Instr.pushs 0xFF).wellFormed = true := by decide

theorem witness_DecodedCommandEncodesToItsWord : decode 0x12FF = .ok (.pushp 0xFF) := by decide

theorem witness_DecodeFollowsTheOpcodeMap :
    decode 0x10FF = .ok (.pushs 0xFF) ∧ Instr.pushs 0 ∈ rowRepresentatives ∧ selectsRow 0x10FF (.pushs 0) = true := by
  decide

/-- A word that decodes to an error decodes to no command. -/
theorem not_ok_of_error {w : Word16} {e : DecodeError} (h : decode w = .error e) (i : Instr) : decode w ≠ .ok i := by
  rw [h]
  intro h'
  cases h'

theorem witness_IllegalWordFailsOrIsIgnored :
    (∀ i, decode 0x2301 ≠ .ok i) ∧ (∀ i, decode 0x0200 ≠ .ok i) ∧ State.reset.err = 0 ∧ failed.err ≠ 0 :=
  ⟨not_ok_of_error test_decode_illegal.2.2.2.2.1, not_ok_of_error test_decode_illegal.2.2.1, by decide, by decide⟩

/-- A state whose host writes one word. -/
def writing (w : Word16) : State := { State.reset with inputs := [.command w] }

theorem witness_StepRunsDecodedCommand :
    (writing 0x1030).resetLine = false ∧ (writing 0x1030).inputs = .command 0x1030 :: []
      ∧ (Instr.pushs 0x30).wellFormed = true ∧ decode 0x1030 = .ok (.pushs 0x30)
      ∧ (writing 0x2301).inputs = .command 0x2301 :: [] ∧ ∀ i, decode 0x2301 ≠ .ok i :=
  ⟨by decide, by decide, by decide, by decide, by decide, not_ok_of_error test_decode_illegal.2.2.2.2.1⟩

theorem witness_WaitingCommandsRunInOrder :
    (writing 0x1030).resetLine = false
      ∧ (writing 0x1030).inputs = ([0x1030] : List Word16).map HostEvent.command ++ [] := by decide

theorem witness_ErrorCodesAndCommandsThatNeverFail :
    Instr.pushs 1 ≠ .kdf ∧ Instr.pushs 1 ≠ .dec ∧ Instr.pushs 1 ≠ .cls ∧ Instr.pushs 1 ≠ .decrypt
      ∧ exec (.pushs 1) State.reset = .next (pushSerialByte 1 State.reset) :=
  ⟨by decide, by decide, by decide, by decide, rfl⟩

theorem witness_ErrorStateIgnoresAllButClr : failed.err ≠ 0 ∧ (0x0101 : Word16) ≠ 0x0100 := by decide

theorem witness_ErrorStateIsLeftOnlyByClrOrReset :
    failed.err ≠ 0
      ∧ takeEvent (.command 0x0100) failed = .next State.reset ∧ State.reset.err ≠ failed.err
      ∧ takeEvent .assertReset failed = .next { State.reset with resetLine := true }
      ∧ ({ State.reset with resetLine := true } : State).err ≠ failed.err :=
  ⟨by decide, rfl, by decide, rfl, by decide⟩

theorem witness_InternalErrorIsNeverRecorded :
    loaded.err ≠ 4 ∧ step { loaded with inputs := [.command 0x2301] } = .next { loaded with err := 7 } :=
  ⟨by decide, rfl⟩

theorem witness_CryptoErrorNeedsARejectedKey :
    (writing 0x2301).cfg = Config.neverRejects ∧ (writing 0x2301).err ≠ 3
      ∧ step (writing 0x2301) = .next { State.reset with err := 7 } := ⟨by decide, by decide, rfl⟩

theorem witness_NopChangesNothing :
    1 ≤ (0x0001 : Word16).toNat ∧ (0x0001 : Word16).toNat ≤ 0xFF ∧ 1 ≤ (0x00FF : Word16).toNat
      ∧ (0x00FF : Word16).toNat ≤ 0xFF := by decide

theorem witness_ClrZeroesTheUnit :
    0x0101 ≤ (0x0101 : Word16).toNat ∧ (0x01FF : Word16).toNat ≤ 0x01FF ∧ Instr.kdf ≠ .clr ∧ failed.err ≠ 0 := by
  decide

theorem witness_PushsStoresOneSerialByte : State.reset.err = 0 ∧ loaded.err = 0 := by decide

theorem witness_PushxTakesOneXvalCharacter :
    loaded.err = 0 ∧ ({ loaded with xcnt := 15 } : State).err = 0
      ∧ (0x46 : Byte) ≠ 0x2D ∧ hexVal 0x46 = some 15 ∧ ({ loaded with xcnt := 15 } : State).xcnt.toNat < 16
      ∧ 16 ≤ loaded.xcnt.toNat ∧ (0x47 : Byte) ≠ 0x2D ∧ hexVal 0x47 = none := by decide

theorem witness_HexValOfEveryCharacter :
    (0x30 ≤ (0x39 : Byte).toNat ∧ (0x39 : Byte).toNat ≤ 0x39) ∧ (0x41 ≤ (0x46 : Byte).toNat ∧ (0x46 : Byte).toNat ≤ 0x46)
      ∧ (0x61 ≤ (0x66 : Byte).toNat ∧ (0x66 : Byte).toNat ≤ 0x66) ∧ (0x2F : Byte).toNat < 0x30
      ∧ (0x39 < (0x3A : Byte).toNat ∧ (0x40 : Byte).toNat < 0x41)
      ∧ (0x46 < (0x47 : Byte).toNat ∧ (0x60 : Byte).toNat < 0x61) ∧ 0x66 < (0x67 : Byte).toNat := by decide

theorem witness_PushpShiftsOnePlaintextByte : State.reset.err = 0 ∧ decrypted.err = 0 := by decide

theorem witness_KdfDerivesTheKey :
    loaded.err = 0 ∧ loaded.scnt = 12 ∧ ({ loaded with scnt := 13 } : State).err = 0
      ∧ ({ loaded with scnt := 13 } : State).scnt ≠ 12 := by decide

theorem witness_DecDecryptsTheBlock :
    (keyed.err = 0 ∧ keyed.xcnt = 16 ∧ keyed.xbad = false ∧ keyed.kv = true ∧ rejectKey keyed.cfg keyed.key = false)
      ∧ (State.reset.err = 0 ∧ ¬ (State.reset.xcnt = 16 ∧ State.reset.xbad = false))
      ∧ (loaded.err = 0 ∧ loaded.xcnt = 16 ∧ loaded.xbad = false ∧ loaded.kv = false)
      ∧ rejectKey Config.alwaysRejects keyed.key = true := by decide

theorem witness_ClsClassifiesThePlaintext :
    decrypted.err = 0 ∧ decrypted.pv = true ∧ keyed.err = 0 ∧ keyed.pv = false := by decide

theorem witness_DecryptDerivesAndDecrypts :
    (loaded.err = 0 ∧ loaded.xcnt = 16 ∧ loaded.xbad = false ∧ loaded.scnt = 12
        ∧ rejectKey loaded.cfg (kdf loaded.ser) = false)
      ∧ (State.reset.err = 0 ∧ ¬ (State.reset.xcnt = 16 ∧ State.reset.xbad = false))
      ∧ ({ loaded with scnt := 11 } : State).scnt ≠ 12
      ∧ rejectKey Config.alwaysRejects (kdf loaded.ser) = true :=
  ⟨⟨rfl, rfl, rfl, rfl, rfl⟩, by decide, by decide, Laws.rejectKey_alwaysRejects _⟩

theorem witness_DecryptIsAllOrNothing : loaded.err = 0 ∧ State.reset.err = 0 := by decide

theorem witness_DecryptAgainstKdfThenDec :
    (loaded.err = 0 ∧ loaded.xvalid = true ∧ loaded.svalid = true ∧ rejectKey loaded.cfg (kdf loaded.ser) = false)
      ∧ (({ loaded with xcnt := 17 } : State).xvalid = false ∧ ({ loaded with xcnt := 17 } : State).svalid = true)
      ∧ (State.reset.err = 0 ∧ State.reset.xvalid = false ∧ State.reset.svalid = false)
      ∧ (({ loaded with scnt := 13 } : State).xvalid = true ∧ ({ loaded with scnt := 13 } : State).svalid = false)
      ∧ rejectKey Config.alwaysRejects (kdf loaded.ser) = true :=
  ⟨⟨rfl, by decide, by decide, rfl⟩, by decide, by decide, by decide, Laws.rejectKey_alwaysRejects _⟩

theorem witness_XvalTextIsStrippedCheckedAndDecoded :
    keyed.err = 0 ∧ State.reset.err = 0 ∧ State.reset.xcnt = 0 ∧ State.reset.xbad = false ∧ State.reset.ct = 0 := by decide

theorem witness_SerialIsStoredAndCounted :
    State.reset.err = 0 ∧ State.reset.scnt = 0 ∧ State.reset.ser = Vector.replicate 12 0
      ∧ ([0x30] : List Byte).length ≠ 12
      ∧ ({ State.reset with xcnt := 16 } : State).scnt = 0 ∧ ({ State.reset with xcnt := 16 } : State).xvalid = true := by
  decide

theorem witness_PlaintextIsPushedBigEndian :
    State.reset.err = 0 ∧ State.reset.pcnt = 0 ∧ State.reset.pt = 0 ∧ State.reset.pv = false
      ∧ (List.replicate 8 (0xFF : Byte)).length = 8 := by decide

theorem witness_OperandStreamsCommute :
    streamOf (.pushs 1) = some .serial ∧ streamOf (.pushx 2) = some .xval ∧ Stream.serial ≠ Stream.xval := by decide

/-- The xval text of V1. -/
def exampleText : List Byte := (codes "DA9C-DC84-43A9-BB4C").map (BitVec.ofNat 8)

theorem witness_TransactionDecryptsThenInterprets :
    xvalTextValid exampleText = true ∧ rejectKey State.reset.cfg (kdf exampleSerial) = false :=
  ⟨by decide +kernel, rfl⟩

theorem witness_TransactionRejectsMalformedOperands :
    xvalTextValid [] = false ∧ ([] : List Byte).length ≠ 12 := by decide

theorem witness_KeyParityBitsAreIgnored :
    (0x0101010101010101 : Word64) &&& 0xFEFEFEFEFEFEFEFE = 0 := by decide

theorem witness_ClassifyFollowsThePriorityOrder :
    (0 : Word64).toNat % 2 ^ 32 = 0
      ∧ (0xFFFFFFFFFFFFFFFF : Word64).toNat / 2 ^ 32 = 2 ^ 32 - 1
      ∧ ((0xFFFFFFFFFFFFFFFE : Word64).toNat % 2 ^ 32 ≠ 0 ∧ (0xFFFFFFFFFFFFFFFE : Word64).toNat / 2 ^ 32 ≠ 0
          ∧ ¬ ((0xFFFFFFFFFFFFFFFE : Word64).toNat % 2 ^ 32 = 2 ^ 32 - 1))
      ∧ ((0x0000000100000000 : Word64).toNat % 2 ^ 32 = 0 ∧ (0x0000000100000000 : Word64).toNat / 2 ^ 32 ≠ 0)
      ∧ ((0x00000000FFFFFFFF : Word64).toNat % 2 ^ 32 ≠ 0 ∧ (0x00000000FFFFFFFF : Word64).toNat / 2 ^ 32 = 0) := by decide

theorem witness_MessageRomHoldsTheStrings :
    (msgLen 10).toNat ≤ (17 : BitVec 6).toNat ∧ (16 : BitVec 6).toNat < (msgLen 10).toNat := by decide

theorem witness_RegisterReadMap : 12 ≤ (12 : BitVec 5).toNat ∧ 12 ≤ (31 : BitVec 5).toNat := by decide

/-- The state whose host writes `PUSHS 0x30` has the invariants, and its step has a successor. -/
theorem witness_StepKeepsTheInvariants :
    Invariant (writing 0x1030) ∧ step (writing 0x1030) = .next (pushSerialByte 0x30 State.reset) := by
  refine ⟨?_, rfl⟩
  constructor <;> simp [writing, State.reset]

theorem witness_ReachableStatesMeetTheInvariants :
    runWords [0x2301] { State.reset with cfg := Config.alwaysRejects }
      = .next { State.reset with cfg := Config.alwaysRejects, err := 7 } := rfl

theorem witness_StepKeepsTheConfiguration :
    step (writing 0x2301) = .next { State.reset with err := 7 } := rfl

end Sys2Proof.Tests
end

/-! PROOFS of the family 00_scope.md: running a list of commands, what the pushes of the two operand texts leave in the
unit, the transaction of rules R2 and R234, and the configuration. -/

namespace Sys2Proof.Proofs

open Sys2Proof.Machine Sys2Proof.Laws

/-! ## Running commands -/

/-- The word of a command decodes to that command (rules R60 to R63). -/
theorem decode_encode (i : Instr) : decode (encode i) = .ok i := by
  cases i with
  | pushs b => simp [decode, fieldsOf_encode, opcode, immediate]
  | pushx c => simp [decode, fieldsOf_encode, opcode, immediate]
  | pushp b => simp [decode, fieldsOf_encode, opcode, immediate]
  | nop => decide
  | clr => decide
  | kdf => decide
  | dec => decide
  | cls => decide
  | decrypt => decide

/-- The port carries out the command whose word it takes. -/
theorem takeCommand_encode (i : Instr) (s : State) : takeCommand (encode i) s = exec i s := by
  rw [takeCommand, decode_encode]

@[simp] theorem runCommands_nil (s : State) : runCommands [] s = .next s := rfl

/-- A run goes on from the state its first command leaves. -/
theorem runCommands_cons_of_exec {i : Instr} {s t : State} (h : exec i s = .next t) (is : List Instr) :
    runCommands (i :: is) s = runCommands is t := by
  rw [runCommands, List.map_cons, runWords, takeCommand_encode, h, runCommands]

/-- With no error recorded a command has its effect. -/
theorem exec_of_err_eq_zero {s : State} (h : s.err = 0) (i : Instr) : exec i s = .next (commandEffect i s) := by
  by_cases hi : i = .clr
  · subst hi
    exact exec_clr s
  · rw [exec_eq_unlessError hi, unlessError_of_eq_zero h]

/-- In the error state a command other than CLR is ignored (rule R203). -/
theorem exec_of_err_ne_zero {s : State} (h : s.err ≠ 0) {i : Instr} (hi : i ≠ .clr) : exec i s = .next s := by
  rw [exec_eq_unlessError hi, unlessError_of_ne_zero h]

/-- A run of one kind of push, whose effect records no error, takes the bytes in their order, and the run goes on from
there. -/
theorem runCommands_map_append {f : Byte → Instr} (hf : ∀ b t, (commandEffect (f b) t).err = t.err) (bs : List Byte)
    {s : State} (h : s.err = 0) (rest : List Instr) :
    runCommands (bs.map f ++ rest) s = runCommands rest (bs.foldl (fun t b => commandEffect (f b) t) s) := by
  induction bs generalizing s with
  | nil => rfl
  | cons b bs ih =>
    rw [List.map_cons, List.cons_append, runCommands_cons_of_exec (exec_of_err_eq_zero h _), ih ((hf b s).trans h),
      List.foldl_cons]

/-! ## The serial stream (rule R85) -/

/-- The state after the bytes of a serial are pushed, the unit not being in the error state. -/
def pushSerial (bytes : List Byte) (s : State) : State := bytes.foldl (fun t b => pushSerialByte b t) s

@[simp] theorem pushSerial_nil (s : State) : pushSerial [] s = s := rfl

@[simp] theorem pushSerial_cons (b : Byte) (bs : List Byte) (s : State) :
    pushSerial (b :: bs) s = pushSerial bs (pushSerialByte b s) := rfl

theorem runCommands_pushs_append (bytes : List Byte) {s : State} (h : s.err = 0) (rest : List Instr) :
    runCommands (bytes.map .pushs ++ rest) s = runCommands rest (pushSerial bytes s) :=
  runCommands_map_append (f := .pushs) pushSerialByte_err bytes h rest

/-- Pushing a serial touches the serial buffer, its count and the key, and nothing else. -/
theorem pushSerial_frame (bytes : List Byte) (s : State) :
    pushSerial bytes s =
      { s with
        ser := (pushSerial bytes s).ser, scnt := (pushSerial bytes s).scnt, key := (pushSerial bytes s).key,
        kv := (pushSerial bytes s).kv } := by
  induction bytes generalizing s with
  | nil => rfl
  | cons b bs ih => exact ih (pushSerialByte b s)

@[simp] theorem pushSerial_ct (bytes : List Byte) (s : State) : (pushSerial bytes s).ct = s.ct := by
  rw [pushSerial_frame]

@[simp] theorem pushSerial_xcnt (bytes : List Byte) (s : State) : (pushSerial bytes s).xcnt = s.xcnt := by
  rw [pushSerial_frame]

@[simp] theorem pushSerial_xbad (bytes : List Byte) (s : State) : (pushSerial bytes s).xbad = s.xbad := by
  rw [pushSerial_frame]

@[simp] theorem pushSerial_err (bytes : List Byte) (s : State) : (pushSerial bytes s).err = s.err := by
  rw [pushSerial_frame]

@[simp] theorem pushSerial_cfg (bytes : List Byte) (s : State) : (pushSerial bytes s).cfg = s.cfg := by
  rw [pushSerial_frame]

theorem pushSerial_scnt_toNat (bytes : List Byte) (s : State) :
    (pushSerial bytes s).scnt.toNat = min (s.scnt.toNat + bytes.length) 255 := by
  induction bytes generalizing s with
  | nil =>
    have := s.scnt.isLt
    simp only [pushSerial_nil, List.length_nil]
    omega
  | cons b bs ih =>
    rw [pushSerial_cons, ih, pushSerialByte_scnt, satSucc_toNat, List.length_cons]
    omega

/-- From index `SCNT` on the serial buffer holds the bytes pushed, as far as they and the buffer reach. -/
theorem pushSerial_ser (bytes : List Byte) (s : State) (i : Fin 12) :
    (pushSerial bytes s).ser[i] =
      if i.val < s.scnt.toNat then s.ser[i] else bytes.getD (i.val - s.scnt.toNat) s.ser[i] := by
  induction bytes generalizing s with
  | nil => simp
  | cons b bs ih =>
    have hi := i.isLt
    have hn : (satSucc s.scnt).toNat = min (s.scnt.toNat + 1) 255 := satSucc_toNat s.scnt
    rw [pushSerial_cons, ih, pushSerialByte_scnt, pushSerialByte_ser, storeSerialByte_getElem, hn]
    rcases lt_trichotomy i.val s.scnt.toNat with hlt | heq | hgt
    · rw [if_pos (by omega), if_neg (by omega), if_pos hlt]
    · rw [if_pos (by omega), if_pos heq, if_neg (by omega), Nat.sub_eq_zero_of_le heq.le, List.getD_cons_zero]
    · have hsub : i.val - s.scnt.toNat = (i.val - min (s.scnt.toNat + 1) 255) + 1 := by omega
      rw [if_neg (by omega), if_neg (by omega), if_neg (by omega), hsub, List.getD_cons_succ]

/-- A whole serial of twelve bytes fills the buffer. -/
theorem pushSerial_toList_ser (ser : Vector Byte 12) {s : State} (h : s.scnt = 0) :
    (pushSerial ser.toList s).ser = ser := by
  apply Vector.ext
  intro i hi
  have hget := pushSerial_ser ser.toList s ⟨i, hi⟩
  simpa [h, hi] using hget

/-! ## The xval stream (rule R84) -/

/-- The state after the characters of an xval text are pushed, the unit not being in the error state. -/
def pushText (text : List Byte) (s : State) : State := text.foldl (fun t c => pushXvalChar c t) s

@[simp] theorem pushText_nil (s : State) : pushText [] s = s := rfl

@[simp] theorem pushText_cons (c : Byte) (cs : List Byte) (s : State) :
    pushText (c :: cs) s = pushText cs (pushXvalChar c s) := rfl

theorem runCommands_pushx_append (text : List Byte) {s : State} (h : s.err = 0) (rest : List Instr) :
    runCommands (text.map .pushx ++ rest) s = runCommands rest (pushText text s) :=
  runCommands_map_append (f := .pushx) pushXvalChar_err text h rest

/-- A character of the xval text touches the ciphertext, its count and `XBAD`, and nothing else. -/
theorem pushXvalChar_frame (c : Byte) (s : State) :
    pushXvalChar c s =
      { s with ct := (pushXvalChar c s).ct, xcnt := (pushXvalChar c s).xcnt, xbad := (pushXvalChar c s).xbad } := by
  by_cases hc : c = dash
  · subst hc
    rw [pushXvalChar_dash]
  · rw [pushXvalChar, if_neg hc]

theorem pushText_frame (text : List Byte) (s : State) :
    pushText text s =
      { s with ct := (pushText text s).ct, xcnt := (pushText text s).xcnt, xbad := (pushText text s).xbad } := by
  induction text generalizing s with
  | nil => rfl
  | cons c cs ih =>
    have hcs := ih (pushXvalChar c s)
    rw [pushXvalChar_frame c s] at hcs
    rw [pushText_cons, pushXvalChar_frame c s]
    exact hcs

@[simp] theorem pushText_ser (text : List Byte) (s : State) : (pushText text s).ser = s.ser := by
  rw [pushText_frame]

@[simp] theorem pushText_scnt (text : List Byte) (s : State) : (pushText text s).scnt = s.scnt := by
  rw [pushText_frame]

@[simp] theorem pushText_err (text : List Byte) (s : State) : (pushText text s).err = s.err := by
  rw [pushText_frame]

@[simp] theorem pushText_cfg (text : List Byte) (s : State) : (pushText text s).cfg = s.cfg := by
  rw [pushText_frame]

/-- A text without its first dash (rule R84). -/
theorem filter_dash_cons_dash (cs : List Byte) : (dash :: cs).filter (· != dash) = cs.filter (· != dash) := by
  simp

/-- Any other first character stays. -/
theorem filter_dash_cons_of_ne {c : Byte} (hc : c ≠ dash) (cs : List Byte) :
    (c :: cs).filter (· != dash) = c :: cs.filter (· != dash) := by
  simp [hc]

theorem pushText_xcnt_toNat (text : List Byte) (s : State) :
    (pushText text s).xcnt.toNat = min (s.xcnt.toNat + xvalTextLength text) 255 := by
  induction text generalizing s with
  | nil =>
    have := s.xcnt.isLt
    simp only [pushText_nil, xvalTextLength, List.filter_nil, List.length_nil]
    omega
  | cons c cs ih =>
    rw [pushText_cons, ih]
    by_cases hc : c = dash
    · subst hc
      rw [pushXvalChar_dash, xvalTextLength, xvalTextLength, filter_dash_cons_dash]
    · rw [pushXvalChar_xcnt hc, satSucc_toNat, xvalTextLength, xvalTextLength, filter_dash_cons_of_ne hc,
        List.length_cons]
      omega

/-- `XBAD` records whether a character that is no dash was no digit either. -/
theorem pushText_xbad (text : List Byte) (s : State) :
    (pushText text s).xbad = (s.xbad || !(text.filter (· != dash)).all fun c => (hexVal c).isSome) := by
  induction text generalizing s with
  | nil => simp
  | cons c cs ih =>
    rw [pushText_cons, ih]
    by_cases hc : c = dash
    · subst hc
      rw [pushXvalChar_dash, filter_dash_cons_dash]
    · rw [pushXvalChar_xbad hc, filter_dash_cons_of_ne hc, List.all_cons, Bool.not_and, Bool.or_assoc,
        Option.not_isSome]

/-- A digit shifted into a block is one more digit of the number the block spells modulo `2^64`. -/
theorem shiftNibble_ofNat {n : Byte} (hn : n.toNat < 16) (d : BitVec 4) (v : Nat) :
    shiftNibble (some d) n (BitVec.ofNat 64 v) = BitVec.ofNat 64 (16 * v + d.toNat) := by
  apply BitVec.eq_of_toNat_eq
  rw [shiftNibble_of_lt hn, shiftLeft_or_setWidth_toNat _ _ (by omega), BitVec.toNat_ofNat, BitVec.toNat_ofNat]
  omega

/-- While at most sixteen characters are counted, a text of digits and dashes appends its digits to the number that the
ciphertext spells. -/
theorem pushText_ct (text : List Byte) {s : State} {v : Nat}
    (hdigits : ((text.filter (· != dash)).all fun c => (hexVal c).isSome) = true)
    (hlen : s.xcnt.toNat + xvalTextLength text ≤ 16) (hct : s.ct = BitVec.ofNat 64 v) :
    (pushText text s).ct =
      BitVec.ofNat 64 ((text.filter (· != dash)).foldl (fun acc c => 16 * acc + ((hexVal c).getD 0).toNat) v) := by
  induction text generalizing s v with
  | nil => exact hct
  | cons c cs ih =>
    rw [pushText_cons]
    by_cases hc : c = dash
    · subst hc
      rw [xvalTextLength, filter_dash_cons_dash] at hlen
      rw [filter_dash_cons_dash] at hdigits ⊢
      rw [pushXvalChar_dash]
      exact ih hdigits hlen hct
    · rw [xvalTextLength, filter_dash_cons_of_ne hc, List.length_cons] at hlen
      rw [filter_dash_cons_of_ne hc] at hdigits ⊢
      rw [List.all_cons, Bool.and_eq_true] at hdigits
      obtain ⟨hdigit, hrest⟩ := hdigits
      obtain ⟨d, hd⟩ := Option.isSome_iff_exists.mp hdigit
      rw [List.foldl_cons, hd]
      apply ih hrest
      · rw [pushXvalChar_xcnt hc, satSucc_toNat, xvalTextLength]
        omega
      · rw [pushXvalChar_ct hc, hct, hd]
        exact shiftNibble_ofNat (by omega) d v

/-- From an empty xval buffer `XVALID` is the source's condition on the text (rule R84). -/
theorem pushText_xvalid (text : List Byte) {s : State} (hcount : s.xcnt = 0) (hbad : s.xbad = false) :
    (pushText text s).xvalid = xvalTextValid text := by
  have hlen : ((pushText text s).xcnt.toNat == xvalNibbles) = (xvalTextLength text == xvalNibbles) := by
    have hzero : s.xcnt.toNat = 0 := congrArg BitVec.toNat hcount
    rw [pushText_xcnt_toNat, hzero, Bool.eq_iff_iff, beq_iff_eq, beq_iff_eq, xvalNibbles]
    omega
  rw [State.xvalid, hlen, pushText_xbad, hbad, Bool.false_or, Bool.not_not]
  rfl

/-- From an empty xval buffer a valid text leaves in `CT` the block it spells (rule R84). -/
theorem pushText_ct_of_valid {text : List Byte} (hvalid : xvalTextValid text = true) {s : State} (hcount : s.xcnt = 0)
    (hct : s.ct = 0) : (pushText text s).ct = BitVec.ofNat 64 (xvalTextValue text) := by
  obtain ⟨hlen, hdigits⟩ := (Bool.and_eq_true _ _).mp hvalid
  have hlen16 : xvalTextLength text = 16 := beq_iff_eq.mp hlen
  refine pushText_ct text hdigits ?_ hct
  rw [hcount, hlen16]
  rfl

/-! ## The transaction (rules R2 and R234) -/

/-- The state in which DECRYPT finds the unit: cleared, and both operands pushed. -/
def operandsPushed (serial text : List Byte) (s : State) : State :=
  pushText text (pushSerial serial (clearUnit s))

theorem operandsPushed_err (serial text : List Byte) (s : State) : (operandsPushed serial text s).err = 0 := by
  simp [operandsPushed]

theorem operandsPushed_cfg (serial text : List Byte) (s : State) : (operandsPushed serial text s).cfg = s.cfg := by
  simp [operandsPushed]

theorem operandsPushed_ser (ser : Vector Byte 12) (text : List Byte) (s : State) :
    (operandsPushed ser.toList text s).ser = ser :=
  (pushText_ser text _).trans (pushSerial_toList_ser ser (clearUnit_scnt s))

theorem operandsPushed_svalid (serial text : List Byte) (s : State) :
    (operandsPushed serial text s).svalid = true ↔ serial.length = 12 := by
  have hcleared : (clearUnit s).scnt.toNat = 0 := rfl
  rw [State.svalid, operandsPushed, pushText_scnt, pushSerial_scnt_toNat, hcleared, beq_iff_eq, serialLen]
  omega

theorem operandsPushed_xvalid (serial text : List Byte) (s : State) :
    (operandsPushed serial text s).xvalid = xvalTextValid text :=
  pushText_xvalid text (pushSerial_xcnt serial _) (pushSerial_xbad serial _)

theorem operandsPushed_ct {text : List Byte} (hvalid : xvalTextValid text = true) (serial : List Byte) (s : State) :
    (operandsPushed serial text s).ct = BitVec.ofNat 64 (xvalTextValue text) :=
  pushText_ct_of_valid hvalid (pushSerial_xcnt serial _) (pushSerial_ct serial _)

/-- The transaction comes to its last two commands with both operands pushed, whatever the unit did before. -/
theorem runCommands_transaction (serial text : List Byte) (s : State) :
    runCommands (.clr :: (serial.map .pushs ++ text.map .pushx ++ [.decrypt, .cls])) s
      = runCommands [.decrypt, .cls] (operandsPushed serial text s) := by
  have hserial : (pushSerial serial (clearUnit s)).err = 0 := pushSerial_err serial (clearUnit s)
  rw [runCommands_cons_of_exec (exec_clr s), List.append_assoc, runCommands_pushs_append serial rfl,
    runCommands_pushx_append text hserial, operandsPushed]

/-- DECRYPT on valid operands and a key that the cipher takes writes key and plaintext (rule R160). -/
theorem exec_decrypt_of_valid {s : State} (herr : s.err = 0) (hx : s.xvalid = true) (hs : s.svalid = true)
    (hk : rejectKey s.cfg (kdf s.ser) = false) :
    exec .decrypt s = .next (loadPlaintext (desDec (kdf s.ser) s.ct) (loadKey (kdf s.ser) s)) := by
  rw [exec_of_err_eq_zero herr, commandEffect, deriveAndDecrypt]
  simp [hx, hs, hk]

/-- DECRYPT on malformed operands fails, and judges the xval first (rules R160 and R205). -/
theorem exec_decrypt_of_malformed {s : State} (herr : s.err = 0) (h : s.xvalid = false ∨ s.svalid = false) :
    exec .decrypt s = .next (failWith (if s.xvalid then .serial else .xval) s) := by
  rw [exec_of_err_eq_zero herr, commandEffect, deriveAndDecrypt]
  by_cases hx : s.xvalid = true
  · have hs : s.svalid = false := h.resolve_left (by simp [hx])
    simp [hx, hs]
  · simp [hx]

/-- CLS after a decryption classifies the decrypted block (rule R187). -/
theorem exec_cls_loadPlaintext {s : State} (herr : s.err = 0) (p : Word64) :
    exec .cls (loadPlaintext p s)
      = .next { loadPlaintext p s with cls := (classify p).1, msgv := (classify p).2, cv := true } := by
  rw [exec_of_err_eq_zero ((loadPlaintext_err p s).trans herr), commandEffect, classifyPlaintext,
    if_pos (loadPlaintext_pv p s)]
  rfl

/-- Settles O32: DECRYPT finds the serial and the block of the text in the unit, and CLS finds the plaintext. -/
theorem transactionDecryptsThenInterprets : Obligations.TransactionDecryptsThenInterprets := by
  intro s ser text htext hkey
  have herr := operandsPushed_err ser.toList text s
  have hser := operandsPushed_ser ser text s
  have hx : (operandsPushed ser.toList text s).xvalid = true := by rw [operandsPushed_xvalid, htext]
  have hs : (operandsPushed ser.toList text s).svalid = true := by
    rw [operandsPushed_svalid, Vector.length_toList]
  have hk : rejectKey (operandsPushed ser.toList text s).cfg (kdf (operandsPushed ser.toList text s).ser) = false := by
    rw [operandsPushed_cfg, hser, hkey]
  have hdecrypt := exec_decrypt_of_valid herr hx hs hk
  rw [hser, operandsPushed_ct htext] at hdecrypt
  rw [runCommands_transaction, runCommands_cons_of_exec hdecrypt,
    runCommands_cons_of_exec (exec_cls_loadPlaintext ((loadKey_err _ _).trans herr) _), runCommands_nil]
  exact ⟨_, rfl, herr, rfl, rfl, rfl, rfl, rfl, rfl⟩

/-- Settles O33: DECRYPT clears every result and records the error, and CLS is ignored after it. -/
theorem transactionRejectsMalformedOperands : Obligations.TransactionRejectsMalformedOperands := by
  intro s serial text hbad
  have herr := operandsPushed_err serial text s
  have hmalformed : (operandsPushed serial text s).xvalid = false ∨ (operandsPushed serial text s).svalid = false := by
    rwa [operandsPushed_xvalid, ← Bool.not_eq_true (State.svalid _), operandsPushed_svalid]
  have hdecrypt := exec_decrypt_of_malformed herr hmalformed
  rw [operandsPushed_xvalid] at hdecrypt
  rw [runCommands_transaction, runCommands_cons_of_exec hdecrypt,
    runCommands_cons_of_exec (exec_of_err_ne_zero (errorCode_ne_zero _) (by decide)), runCommands_nil]
  refine ⟨_, rfl, ?_, rfl, rfl, rfl, rfl, rfl, rfl, rfl⟩
  rw [failWith_err]
  cases xvalTextValid text <;> rfl

/-- The second case of O33 alone: a valid text beside a serial of eleven bytes. -/
theorem witness_valid_text_and_short_serial :
    xvalTextValid (List.replicate 16 0x30) = true ∧ (List.replicate 11 (0x30 : Byte)).length ≠ 12 := by decide

/-! ## The configuration (rules R5 and R34) -/

/-- Every word the port takes has a next state, and leaves the host's side of it alone. -/
theorem takeCommand_next (w : Word16) (s : State) :
    ∃ t, takeCommand w s = .next t ∧ t.cfg = s.cfg ∧ t.resetLine = s.resetLine ∧ t.inputs = s.inputs := by
  rw [takeCommand]
  cases decode w with
  | ok i => exact exec_next i s
  | error _ =>
    refine ⟨_, rfl, ?_⟩
    rcases unlessError_cases (failWith .illegal) s with ⟨-, e⟩ | ⟨-, e⟩ <;> rw [e]
    · exact ⟨rfl, rfl, rfl⟩
    · exact ⟨rfl, rfl, rfl⟩

/-- Every event of the host has a next state, with the same configuration and the same events waiting. -/
theorem takeEvent_next (e : HostEvent) (s : State) :
    ∃ t, takeEvent e s = .next t ∧ t.cfg = s.cfg ∧ t.inputs = s.inputs := by
  cases e with
  | command w =>
    by_cases hreset : s.resetLine = true
    · exact ⟨s, if_pos hreset, rfl, rfl⟩
    · obtain ⟨t, ht, hcfg, -, hinputs⟩ := takeCommand_next w s
      exact ⟨t, (takeEvent_command (Bool.not_eq_true _ ▸ hreset) w).trans ht, hcfg, hinputs⟩
  | assertReset => exact ⟨_, rfl, rfl, rfl⟩
  | releaseReset => exact ⟨_, rfl, rfl, rfl⟩

/-- Every step has a next state, with the same configuration. -/
theorem step_next (s : State) : ∃ t, step s = .next t ∧ t.cfg = s.cfg := by
  cases hinputs : s.inputs with
  | nil => exact ⟨s, step_idle hinputs, rfl⟩
  | cons e rest =>
    obtain ⟨t, ht, hcfg, -⟩ := takeEvent_next e { s with inputs := rest }
    exact ⟨t, (step_event hinputs).trans ht, hcfg⟩

/-- Settles O56: the one next state of a step has the configuration of the state before it. -/
theorem stepKeepsTheConfiguration : Obligations.StepKeepsTheConfiguration := by
  intro s t hstep
  obtain ⟨u, hu, hcfg⟩ := step_next s
  obtain rfl : u = t := Host.Outcome.next.inj (hu.symm.trans hstep)
  exact hcfg

end Sys2Proof.Proofs

/-! PROOFS of the family 10_state.md: the status words field by field, the values after reset, and the invariants of
rule R29 with what every command, event and step does to them. -/

namespace Sys2Proof.Proofs

open Sys2Proof.Machine Sys2Proof.Laws

/-! ## Fields of a read word (rules R26 to R28) -/

/-- A field that stands at bit `p` of a read word is read back whole. -/
theorem extractLsb'_placed_same {w p : Nat} (h : p + w ≤ 32) (x : BitVec w) :
    (x.setWidth 32 <<< p).extractLsb' p w = x := by
  ext i hi
  have hlt : p + i < 32 := by omega
  simp [hlt, hi]

/-- A field is not seen in the bits that do not meet its own. -/
theorem extractLsb'_placed_disjoint {w p q n : Nat} (h : q + n ≤ p ∨ p + w ≤ q) (x : BitVec w) :
    (x.setWidth 32 <<< p).extractLsb' q n = 0#n := by
  ext i hi
  rcases h with hbelow | habove
  · have hlt : q + i < p := by omega
    simp [hlt]
  · have hge : w ≤ q + i - p := by omega
    simp [BitVec.getLsbD_of_ge x _ hge]

/-- A flag is a field of one bit. -/
theorem flagBit_eq_placed (b : Bool) (n : Nat) : flagBit b n = (BitVec.ofBool b).setWidth 32 <<< n := by
  cases b <;> rfl

/-- A flag sets its own bit and no other. -/
theorem flagBit_getLsbD (b : Bool) {n i : Nat} (hi : i < 32) :
    (flagBit b n).getLsbD i = (b && decide (i = n)) := by
  rcases lt_trichotomy i n with hlt | heq | hgt
  · simp [flagBit, hlt, hlt.ne]
  · subst heq
    cases b <;> simp [flagBit, hi]
  · have hsub : i - n ≠ 0 := by omega
    cases b <;> simp [flagBit, hi, hgt.not_gt, hgt.ne', hsub]

/-- A flag is not seen in a range of bits that leaves its own out. -/
theorem flagBit_extractLsb' (b : Bool) {n q m : Nat} (h : n + 1 ≤ q) : (flagBit b n).extractLsb' q m = 0#m := by
  rw [flagBit_eq_placed]
  exact extractLsb'_placed_disjoint (.inr h) _

/-- The low byte of STATUS: one flag to each bit (rule R26). -/
theorem status_getLsbD (s : State) {i : Nat} (hi : i < 8) :
    s.status.getLsbD i =
      (s.errf && decide (i = 0) || s.kv && decide (i = 1) || s.pv && decide (i = 2) || s.cv && decide (i = 3)
        || s.xbad && decide (i = 4) || s.svalid && decide (i = 5) || s.xvalid && decide (i = 6)) := by
  have h32 : i < 32 := by omega
  simp [State.status, State.busy, flagBit_getLsbD _ h32, hi]

/-- Above the low byte STATUS is the error code (rule R26). -/
theorem status_extractLsb' (s : State) {q m : Nat} (hq : 8 ≤ q) :
    s.status.extractLsb' q m = (s.err.setWidth 32 <<< 8).extractLsb' q m := by
  simp (disch := omega) only [State.status, BitVec.extractLsb'_or, flagBit_extractLsb', BitVec.zero_or]

theorem svalid_iff (s : State) : s.svalid = true ↔ s.scnt = 12 := by
  rw [State.svalid, beq_iff_eq, ← BitVec.toNat_inj]
  rfl

theorem xvalid_iff (s : State) : s.xvalid = true ↔ s.xcnt = 16 ∧ s.xbad = false := by
  rw [State.xvalid, Bool.and_eq_true, beq_iff_eq, Bool.not_eq_true', ← BitVec.toNat_inj]
  rfl

theorem errf_iff (s : State) : s.errf = true ↔ s.err ≠ 0 := bne_iff_ne

/-- Settles O47: each bit of the low byte is one flag, and the error code stands above them. -/
theorem statusWordBitByBit : Obligations.StatusWordBitByBit := by
  refine ⟨rfl, fun s => ⟨?errf, ?kv, ?pv, ?cv, ?xbad, ?svalid, ?xvalid, ?busy, ?err, ?reserved⟩⟩
  case errf => rw [status_getLsbD s (by omega)]; simp [errf_iff]
  case kv => rw [status_getLsbD s (by omega)]; simp
  case pv => rw [status_getLsbD s (by omega)]; simp
  case cv => rw [status_getLsbD s (by omega)]; simp
  case xbad => rw [status_getLsbD s (by omega)]; simp
  case svalid => rw [status_getLsbD s (by omega)]; simp [svalid_iff]
  case xvalid => rw [status_getLsbD s (by omega)]; simp [xvalid_iff]
  case busy => rw [status_getLsbD s (by omega)]; simp
  case err => rw [status_extractLsb' s (by omega), extractLsb'_placed_same (by omega)]
  case reserved => rw [status_extractLsb' s (by omega), extractLsb'_placed_disjoint (by omega)]; rfl

/-- COUNTS is three fields placed at their bits (rule R27). -/
theorem counts_extractLsb' (s : State) (q m : Nat) :
    s.counts.extractLsb' q m =
      (s.scnt.setWidth 32 <<< 0).extractLsb' q m ||| (s.xcnt.setWidth 32 <<< 8).extractLsb' q m
        ||| (s.pcnt.setWidth 32 <<< 16).extractLsb' q m := by
  rw [State.counts, BitVec.extractLsb'_or, BitVec.extractLsb'_or, BitVec.shiftLeft_zero]

/-- RESULT is two fields placed at their bits (rule R28). -/
theorem result_extractLsb' (s : State) (q m : Nat) :
    s.result.extractLsb' q m =
      (s.msgv.setWidth 32 <<< 0).extractLsb' q m ||| (s.cls.setWidth 32 <<< 16).extractLsb' q m := by
  rw [State.result, BitVec.extractLsb'_or, BitVec.shiftLeft_zero]

/-- Settles O48: in the bits of each field the other fields of the word are not seen. The fields at bit 0 keep
their shift by 0, so that the two laws of placed fields meet them too. -/
theorem countsAndResultWords : Obligations.CountsAndResultWords := by
  refine ⟨rfl, rfl, fun s => ?_⟩
  simp (disch := omega) [counts_extractLsb', result_extractLsb', extractLsb'_placed_same,
    extractLsb'_placed_disjoint, -BitVec.shiftLeft_zero]

/-! ## The values after reset (rule R33) -/

/-- Every register read is zero after reset. -/
theorem rd_reset (r : BitVec 5) : rd State.reset r = 0 := by
  revert r
  decide

/-- Settles O50: the elements by the definition of the reset state, the reads by their 32 indices. -/
theorem resetValuesAreZero : Obligations.ResetValuesAreZero :=
  ⟨rfl, rfl, rfl, rfl, rfl, rfl, rfl, rfl, rfl, rfl, rfl, rfl, rfl, rfl, rd_reset⟩

/-! ## The invariants of rule R29 -/

/-- A unit whose fourteen elements have their reset values has the invariants, whatever its host's side. -/
theorem invariant_resetElements (c : Config) (line : Bool) (events : List HostEvent) :
    Invariant { State.reset with cfg := c, resetLine := line, inputs := events } where
  keyValid hkv := absurd hkv Bool.false_ne_true
  keyAbsent _ := rfl
  classValid hcv := absurd hcv Bool.false_ne_true
  classAbsent _ := ⟨rfl, rfl⟩
  plainValid hpv := absurd hpv Bool.false_ne_true
  plainEmpty _ := rfl
  errorEmpty herr := absurd rfl herr
  errorCodes := .inl rfl
  classCodes := .inl rfl
  cryptoCause herr := absurd herr (show ¬ (0 : BitVec 4) = 3 by decide)
  serialTail _ _ := Vector.getElem_replicate _
  xvalEmpty _ := ⟨rfl, rfl⟩
  singleMessage _ _ hbit := absurd hbit (by simp [State.reset])
  resetHeld hline :=
    congrArg (fun l : Bool => { State.reset with cfg := c, resetLine := l, inputs := events }) hline

/-- Settles O53: the host's side of the reset state is the default configuration, the input released, no event. -/
theorem resetMeetsTheInvariants : Obligations.ResetMeetsTheInvariants := invariant_resetElements _ _ _

/-- CLR gives the invariants from every state (rule R163). -/
theorem invariant_clearUnit (s : State) : Invariant (clearUnit s) := invariant_resetElements _ _ _

/-- Asserting the reset input gives the invariants from every state (rule R230). -/
theorem invariant_assertReset (s : State) : Invariant { clearUnit s with resetLine := true } :=
  invariant_resetElements _ _ _

/-- Releasing the reset input keeps the invariants (rule R230). -/
theorem invariant_releaseReset {s : State} (hs : Invariant s) : Invariant { s with resetLine := false } :=
  { hs with resetHeld := fun hline => absurd hline Bool.false_ne_true }

/-- The invariants say nothing of which events are still to come. -/
theorem invariant_setInputs {s : State} (hs : Invariant s) (events : List HostEvent) :
    Invariant { s with inputs := events } :=
  { hs with
    resetHeld := fun hline => congrArg (fun t : State => { t with inputs := events }) (hs.resetHeld hline) }

/-! ### The codes of I7 and the message vectors of I9 -/

/-- The codes of the causes that a command raises (rules R201 and R206). -/
theorem errorCode_mem {cause : ErrorCause} (h : cause ≠ .internal) :
    errorCode cause = 0 ∨ errorCode cause = 1 ∨ errorCode cause = 2 ∨ errorCode cause = 3 ∨ errorCode cause = 5
      ∨ errorCode cause = 6 ∨ errorCode cause = 7 := by
  cases cause with
  | internal => exact absurd rfl h
  | _ => decide

/-- Code 3 is that of `E_CRYPTO` alone (rule R201). -/
theorem errorCode_eq_three_iff (cause : ErrorCause) : errorCode cause = 3 ↔ cause = .crypto := by
  cases cause <;> decide

/-- A word below `2 ^ n` has no bit set from `n` on. -/
theorem getLsbD_of_toNat_lt {w n i : Nat} {x : BitVec w} (hx : x.toNat < 2 ^ n) (hi : n ≤ i) : x.getLsbD i = false :=
  Nat.testBit_lt_two_pow (hx.trans_le (Nat.pow_le_pow_right Nat.two_pos hi))

/-- The flags and the unknown violation leave bits 13 to 15 of the message vector zero (rule R184). -/
theorem flagVector_getLsbD_high (lo : Word32) {i : Nat} (hi : 13 ≤ i) : (flagVector lo).getLsbD i = false := by
  have hmask : (0x0FFF : Word32).getLsbD i = false := getLsbD_of_toNat_lt (n := 13) (by decide) hi
  have hunknown : (0x1000 : Word16).getLsbD i = false := getLsbD_of_toNat_lt (n := 13) (by decide) hi
  rw [flagVector, BitVec.getLsbD_or, BitVec.getLsbD_setWidth, BitVec.getLsbD_and, hmask,
    apply_ite (BitVec.getLsbD · i), hunknown]
  simp

/-- A vector of one set bit is told by that bit. -/
theorem twoPow_eq_of_getLsbD {i j : Nat} (hbit : (BitVec.twoPow 16 j).getLsbD i = true) :
    BitVec.twoPow 16 j = BitVec.twoPow 16 i := by
  rw [BitVec.getLsbD_twoPow, Bool.and_eq_true, decide_eq_true_iff] at hbit
  obtain ⟨-, hij⟩ := hbit
  rw [of_decide_eq_true hij]

/-- I7: the classifier answers one of the codes of rule R17. -/
theorem classify_code (pt : Word64) :
    (classify pt).1 = 0 ∨ (classify pt).1 = 1 ∨ (classify pt).1 = 2 ∨ (classify pt).1 = 3 ∨ (classify pt).1 = 4 := by
  rcases classify_cases pt with ⟨-, -, h⟩ | ⟨-, -, h⟩ | ⟨-, -, -, h⟩ | ⟨-, h⟩ <;> simp [h]

/-- I9: a message vector of the classifier with one of bits 13 to 15 set has no other bit set. -/
theorem classify_singleMessage (pt : Word64) {i : Nat} (hi : i = 13 ∨ i = 14 ∨ i = 15)
    (hbit : (classify pt).2.getLsbD i = true) : (classify pt).2 = BitVec.twoPow 16 i := by
  rcases classify_cases pt with ⟨-, -, h⟩ | ⟨-, -, h⟩ | ⟨-, -, -, h⟩ | ⟨-, h⟩ <;> rw [h] at hbit ⊢
  · exact twoPow_eq_of_getLsbD (j := 13) hbit
  · exact twoPow_eq_of_getLsbD (j := 14) hbit
  · exact twoPow_eq_of_getLsbD (j := 15) hbit
  · rw [flagVector_getLsbD_high _ (by omega)] at hbit
    exact absurd hbit Bool.false_ne_true

/-! ### The writes of the commands

A write changes the clauses that speak of the elements it writes. The clause on the reset input says nothing while that
input is released, and the clauses on the error state say nothing while no error is recorded. -/

section Writes

variable {s : State}

/-- With the reset input released there is nothing that reset holds. -/
theorem resetLine_absurd {p : Prop} (hreset : s.resetLine = false) (hline : s.resetLine = true) : p :=
  absurd hline (by simp [hreset])

/-- PUSHS: the stored byte stands below the new count, and the key is gone (rule R81). -/
theorem invariant_pushSerialByte (hs : Invariant s) (hreset : s.resetLine = false) (herr : s.err = 0) (b : Byte) :
    Invariant (pushSerialByte b s) :=
  { hs with
    keyValid := fun hkv => absurd hkv Bool.false_ne_true
    keyAbsent := fun _ => rfl
    errorEmpty := fun h => absurd herr h
    serialTail := by
      intro i hi
      have hlt := i.isLt
      rw [pushSerialByte_scnt, satSucc_toNat] at hi
      rw [pushSerialByte_ser, storeSerialByte_getElem, if_neg (by omega)]
      exact hs.serialTail i (by omega)
    resetHeld := resetLine_absurd hreset }

/-- PUSHX: a dash changes nothing, and after any other character the count is not zero (rule R82). -/
theorem invariant_pushXvalChar (hs : Invariant s) (hreset : s.resetLine = false) (c : Byte) :
    Invariant (pushXvalChar c s) := by
  by_cases hc : c = dash
  · rw [hc, pushXvalChar_dash]
    exact hs
  · rw [pushXvalChar, if_neg hc]
    exact { hs with
      xvalEmpty := fun h => absurd h (satSucc_ne_zero _)
      resetHeld := resetLine_absurd hreset }

/-- PUSHP, DEC and DECRYPT write the plaintext, its count and `PV`, and discard the classification. -/
theorem invariant_writePlaintext (hs : Invariant s) (hreset : s.resetLine = false) (herr : s.err = 0) (p : Word64)
    (n : Byte) (v : Bool) (hvalid : v = true → n = 8) (hcount : n ≠ 0) :
    Invariant (clearClassification { s with pt := p, pcnt := n, pv := v }) :=
  { hs with
    classValid := fun hcv => absurd hcv Bool.false_ne_true
    classAbsent := fun _ => ⟨rfl, rfl⟩
    plainValid := fun hpv => ⟨hvalid hpv, herr⟩
    plainEmpty := fun h => absurd h hcount
    errorEmpty := fun h => absurd herr h
    classCodes := .inl rfl
    singleMessage := fun _ _ hbit => absurd hbit (by simp)
    resetHeld := resetLine_absurd hreset }

/-- PUSHP: `PV` says that the new count is 8 (rule R83). -/
theorem invariant_pushPlainByte (hs : Invariant s) (hreset : s.resetLine = false) (herr : s.err = 0) (b : Byte) :
    Invariant (pushPlainByte b s) :=
  invariant_writePlaintext hs hreset herr _ _ _ (fun hpv => BitVec.eq_of_toNat_eq (beq_iff_eq.mp hpv))
    (satSucc_ne_zero _)

/-- DEC and DECRYPT load a block of eight bytes (rules R145 and R160). -/
theorem invariant_loadPlaintext (hs : Invariant s) (hreset : s.resetLine = false) (herr : s.err = 0) (p : Word64) :
    Invariant (loadPlaintext p s) :=
  invariant_writePlaintext hs hreset herr p _ _ (fun _ => rfl) (by decide)

/-- KDF and DECRYPT write the key of the serial, where the serial is valid (rules R112 and R160). -/
theorem invariant_loadKey (hs : Invariant s) (hreset : s.resetLine = false) (herr : s.err = 0)
    (hserial : s.svalid = true) : Invariant (loadKey (kdf s.ser) s) :=
  { hs with
    keyValid := fun _ => ⟨(svalid_iff s).mp hserial, rfl, herr⟩
    keyAbsent := fun hkv => absurd hkv.symm Bool.false_ne_true
    errorEmpty := fun h => absurd herr h
    resetHeld := resetLine_absurd hreset }

/-- The error entry clears every result (rule R202); `E_CRYPTO` needs a serial whose key the cipher refuses. -/
theorem invariant_failWith (hs : Invariant s) (hreset : s.resetLine = false) {cause : ErrorCause}
    (hcause : cause ≠ .internal) (hcrypto : cause = .crypto → ∃ ser, rejectKey s.cfg (kdf ser) = true) :
    Invariant (failWith cause s) :=
  { hs with
    keyValid := fun hkv => absurd hkv Bool.false_ne_true
    keyAbsent := fun _ => rfl
    classValid := fun hcv => absurd hcv Bool.false_ne_true
    classAbsent := fun _ => ⟨rfl, rfl⟩
    plainValid := fun hpv => absurd hpv Bool.false_ne_true
    plainEmpty := fun _ => rfl
    errorEmpty := fun _ => ⟨rfl, rfl, rfl, rfl, rfl, rfl, rfl, rfl⟩
    errorCodes := errorCode_mem hcause
    classCodes := .inl rfl
    cryptoCause := fun h => hcrypto ((errorCode_eq_three_iff cause).mp h)
    singleMessage := fun _ _ hbit => absurd hbit (by simp)
    resetHeld := resetLine_absurd hreset }

/-- CLS: the classification is that of the plaintext, which is valid (rule R187). -/
theorem invariant_classification (hs : Invariant s) (hreset : s.resetLine = false) (herr : s.err = 0)
    (hpv : s.pv = true) : Invariant { s with cls := (classify s.pt).1, msgv := (classify s.pt).2, cv := true } :=
  { hs with
    classValid := fun _ => ⟨hpv, rfl, herr⟩
    classAbsent := fun hcv => absurd hcv.symm Bool.false_ne_true
    errorEmpty := fun h => absurd herr h
    classCodes := classify_code s.pt
    singleMessage := fun _ => classify_singleMessage s.pt
    resetHeld := resetLine_absurd hreset }

end Writes

/-! ### Commands, events and steps -/

/-- A command's effect keeps the invariants while no error is recorded and the reset input is released. -/
theorem invariant_commandEffect {s : State} (hs : Invariant s) (hreset : s.resetLine = false) (herr : s.err = 0)
    (i : Instr) : Invariant (commandEffect i s) := by
  cases i with
  | nop => exact hs
  | clr => exact invariant_clearUnit s
  | pushs b => exact invariant_pushSerialByte hs hreset herr b
  | pushx c => exact invariant_pushXvalChar hs hreset c
  | pushp b => exact invariant_pushPlainByte hs hreset herr b
  | kdf =>
    rw [commandEffect]
    rcases deriveKey_cases s with ⟨hserial, e⟩ | ⟨-, e⟩ <;> rw [e]
    · exact invariant_loadKey hs hreset herr hserial
    · exact invariant_failWith hs hreset (by decide) (by simp)
  | dec =>
    rw [commandEffect]
    rcases decryptBlock_cases s with ⟨-, e⟩ | ⟨-, -, e⟩ | ⟨-, hkv, hreject, e⟩ | ⟨-, -, -, e⟩ <;> rw [e]
    · exact invariant_failWith hs hreset (by decide) (by simp)
    · exact invariant_failWith hs hreset (by decide) (by simp)
    · obtain ⟨-, hkey, -⟩ := hs.keyValid hkv
      exact invariant_failWith hs hreset (by decide) fun _ => ⟨s.ser, hkey ▸ hreject⟩
    · exact invariant_loadPlaintext hs hreset herr _
  | cls =>
    rw [commandEffect]
    rcases classifyPlaintext_cases s with ⟨hpv, e⟩ | ⟨-, e⟩ <;> rw [e]
    · exact invariant_classification hs hreset herr hpv
    · exact invariant_failWith hs hreset (by decide) (by simp)
  | decrypt =>
    rw [commandEffect]
    rcases deriveAndDecrypt_cases s with ⟨-, e⟩ | ⟨-, -, e⟩ | ⟨-, -, hreject, e⟩ | ⟨-, hserial, -, e⟩ <;> rw [e]
    · exact invariant_failWith hs hreset (by decide) (by simp)
    · exact invariant_failWith hs hreset (by decide) (by simp)
    · exact invariant_failWith hs hreset (by decide) fun _ => ⟨s.ser, hreject⟩
    · exact invariant_loadPlaintext (invariant_loadKey hs hreset herr hserial) hreset herr _

/-- What stands behind the error gate has to keep the invariants only while no error is recorded (rule R203). -/
theorem invariant_unlessError {s : State} {act : State → State} (hs : Invariant s)
    (hact : s.err = 0 → Invariant (act s)) : Invariant (unlessError act s) := by
  rcases unlessError_cases act s with ⟨herr, e⟩ | ⟨-, e⟩ <;> rw [e]
  · exact hact herr
  · exact hs

/-- Every command has a next state with the invariants. -/
theorem exec_invariant {s : State} (hs : Invariant s) (hreset : s.resetLine = false) (i : Instr) :
    ∃ t, exec i s = .next t ∧ Invariant t := by
  by_cases hi : i = .clr
  · subst hi
    exact ⟨_, exec_clr s, invariant_clearUnit s⟩
  · exact ⟨_, exec_eq_unlessError hi s,
      invariant_unlessError hs fun herr => invariant_commandEffect hs hreset herr i⟩

/-- Every word the port takes, an illegal one included, has a next state with the invariants (rule R64). -/
theorem takeCommand_invariant {s : State} (hs : Invariant s) (hreset : s.resetLine = false) (w : Word16) :
    ∃ t, takeCommand w s = .next t ∧ Invariant t := by
  rw [takeCommand]
  cases decode w with
  | ok i => exact exec_invariant hs hreset i
  | error _ =>
    exact ⟨_, rfl, invariant_unlessError hs fun _ => invariant_failWith hs hreset (by decide) (by simp)⟩

/-- Every event of the host has a next state with the invariants. -/
theorem takeEvent_invariant {s : State} (hs : Invariant s) (e : HostEvent) :
    ∃ t, takeEvent e s = .next t ∧ Invariant t := by
  cases e with
  | command w =>
    by_cases hline : s.resetLine = true
    · exact ⟨s, if_pos hline, hs⟩
    · rw [Bool.not_eq_true] at hline
      rw [takeEvent_command hline]
      exact takeCommand_invariant hs hline w
  | assertReset => exact ⟨_, rfl, invariant_assertReset s⟩
  | releaseReset => exact ⟨_, rfl, invariant_releaseReset hs⟩

/-- Every step has a next state with the invariants. -/
theorem step_invariant {s : State} (hs : Invariant s) : ∃ t, step s = .next t ∧ Invariant t := by
  cases hinputs : s.inputs with
  | nil => exact ⟨s, step_idle hinputs, hs⟩
  | cons e rest =>
    rw [step_event hinputs]
    exact takeEvent_invariant (invariant_setInputs hs rest) e

/-- Settles O54: the one next state of a step is the one that has the invariants. -/
theorem stepKeepsTheInvariants : Obligations.StepKeepsTheInvariants := by
  intro s t hs hstep
  obtain ⟨u, hu, hinv⟩ := step_invariant hs
  obtain rfl : u = t := Host.Outcome.next.inj (hu.symm.trans hstep)
  exact hinv

/-- A run of command words from a state with the invariants and the reset input released ends in one with the
invariants, by induction on the words. -/
theorem runWords_invariant (ws : List Word16) {s : State} (hs : Invariant s) (hreset : s.resetLine = false) :
    ∃ t, runWords ws s = .next t ∧ Invariant t := by
  induction ws generalizing s with
  | nil => exact ⟨s, rfl, hs⟩
  | cons w ws ih =>
    obtain ⟨t, ht, -, hline, -⟩ := takeCommand_next w s
    obtain ⟨u, hu, hinv⟩ := takeCommand_invariant hs hreset w
    obtain rfl : t = u := Host.Outcome.next.inj (ht.symm.trans hu)
    rw [runWords, ht]
    exact ih hinv (hline.trans hreset)

/-- Settles O55: a run starts with the elements reset and the reset input released. -/
theorem reachableStatesMeetTheInvariants : Obligations.ReachableStatesMeetTheInvariants := by
  intro cfg ws t hrun
  obtain ⟨u, hu, hinv⟩ := runWords_invariant ws (invariant_resetElements cfg false []) rfl
  obtain rfl : u = t := Host.Outcome.next.inj (hu.symm.trans hrun)
  exact hinv

end Sys2Proof.Proofs

/-! PROOFS of the family 20_memory.md: the waiting command words against a run of words, the register read map, and
several units side by side. -/

namespace Sys2Proof.Proofs

open Sys2Proof.Machine Sys2Proof.Laws

/-! ## The waiting words (rules R46 and R237)

A step takes one word out of the queue and carries it out with the later words still waiting, where a run of words
carries it out with none of them in the queue. The two agree because no command looks at the waiting events. -/

/-- The unit with other events waiting. -/
def setInputs (events : List HostEvent) (s : State) : State := { s with inputs := events }

@[simp] theorem setInputs_ser (events : List HostEvent) (s : State) : (setInputs events s).ser = s.ser := rfl
@[simp] theorem setInputs_ct (events : List HostEvent) (s : State) : (setInputs events s).ct = s.ct := rfl
@[simp] theorem setInputs_pv (events : List HostEvent) (s : State) : (setInputs events s).pv = s.pv := rfl
@[simp] theorem setInputs_key (events : List HostEvent) (s : State) : (setInputs events s).key = s.key := rfl
@[simp] theorem setInputs_kv (events : List HostEvent) (s : State) : (setInputs events s).kv = s.kv := rfl
@[simp] theorem setInputs_cfg (events : List HostEvent) (s : State) : (setInputs events s).cfg = s.cfg := rfl
@[simp] theorem setInputs_svalid (events : List HostEvent) (s : State) : (setInputs events s).svalid = s.svalid := rfl
@[simp] theorem setInputs_xvalid (events : List HostEvent) (s : State) : (setInputs events s).xvalid = s.xvalid := rfl

theorem failWith_setInputs (cause : ErrorCause) (events : List HostEvent) (s : State) :
    failWith cause (setInputs events s) = setInputs events (failWith cause s) := rfl

theorem loadPlaintext_setInputs (p : Word64) (events : List HostEvent) (s : State) :
    loadPlaintext p (setInputs events s) = setInputs events (loadPlaintext p s) := rfl

theorem loadKey_setInputs (k : Word64) (events : List HostEvent) (s : State) :
    loadKey k (setInputs events s) = setInputs events (loadKey k s) := rfl

theorem pushXvalChar_setInputs (c : Byte) (events : List HostEvent) (s : State) :
    pushXvalChar c (setInputs events s) = setInputs events (pushXvalChar c s) := by
  by_cases hc : c = dash
  · subst hc
    rw [pushXvalChar_dash, pushXvalChar_dash]
  · rw [pushXvalChar, pushXvalChar, if_neg hc, if_neg hc]
    rfl

theorem deriveKey_setInputs (events : List HostEvent) (s : State) :
    deriveKey (setInputs events s) = setInputs events (deriveKey s) := by
  rcases deriveKey_cases s with ⟨hserial, e⟩ | ⟨hserial, e⟩ <;> rw [e]
  · simp [deriveKey, hserial, loadKey_setInputs]
  · simp [deriveKey, hserial, failWith_setInputs]

theorem decryptBlock_setInputs (events : List HostEvent) (s : State) :
    decryptBlock (setInputs events s) = setInputs events (decryptBlock s) := by
  rcases decryptBlock_cases s with ⟨hx, e⟩ | ⟨hx, hkv, e⟩ | ⟨hx, hkv, hreject, e⟩ | ⟨hx, hkv, hreject, e⟩ <;> rw [e]
  · simp [decryptBlock, hx, failWith_setInputs]
  · simp [decryptBlock, hx, hkv, failWith_setInputs]
  · simp [decryptBlock, hx, hkv, hreject, failWith_setInputs]
  · simp [decryptBlock, hx, hkv, hreject, loadPlaintext_setInputs]

theorem classifyPlaintext_setInputs (events : List HostEvent) (s : State) :
    classifyPlaintext (setInputs events s) = setInputs events (classifyPlaintext s) := by
  rcases classifyPlaintext_cases s with ⟨hpv, e⟩ | ⟨hpv, e⟩ <;> rw [e]
  · rw [classifyPlaintext, setInputs_pv, if_pos hpv]
    rfl
  · simp [classifyPlaintext, hpv, failWith_setInputs]

theorem deriveAndDecrypt_setInputs (events : List HostEvent) (s : State) :
    deriveAndDecrypt (setInputs events s) = setInputs events (deriveAndDecrypt s) := by
  rcases deriveAndDecrypt_cases s with ⟨hx, e⟩ | ⟨hx, hs, e⟩ | ⟨hx, hs, hreject, e⟩ | ⟨hx, hs, hreject, e⟩ <;> rw [e]
  · simp [deriveAndDecrypt, hx, failWith_setInputs]
  · simp [deriveAndDecrypt, hx, hs, failWith_setInputs]
  · simp [deriveAndDecrypt, hx, hs, hreject, failWith_setInputs]
  · simp [deriveAndDecrypt, hx, hs, hreject, loadKey_setInputs, loadPlaintext_setInputs]

/-- What a command does while `ERR = 0` is the same whatever is waiting. -/
theorem commandEffect_setInputs (i : Instr) (events : List HostEvent) (s : State) :
    commandEffect i (setInputs events s) = setInputs events (commandEffect i s) := by
  cases i with
  | nop => rfl
  | clr => rfl
  | pushs b => rfl
  | pushx c => exact pushXvalChar_setInputs c events s
  | pushp b => rfl
  | kdf => exact deriveKey_setInputs events s
  | dec => exact decryptBlock_setInputs events s
  | cls => exact classifyPlaintext_setInputs events s
  | decrypt => exact deriveAndDecrypt_setInputs events s

/-- The error gate reads `ERR`, so it does not look at the waiting events if what stands behind it does not. -/
theorem unlessError_setInputs {act : State → State} {events : List HostEvent} {s : State}
    (hact : act (setInputs events s) = setInputs events (act s)) :
    unlessError act (setInputs events s) = setInputs events (unlessError act s) := by
  rcases unlessError_cases act s with ⟨herr, e⟩ | ⟨herr, e⟩ <;> rw [e]
  · rw [unlessError_of_eq_zero (s := setInputs events s) herr, hact]
  · exact unlessError_of_ne_zero (s := setInputs events s) herr act

/-- With other events waiting a command leads to the same unit, and they are still waiting. -/
theorem exec_setInputs {i : Instr} {s t : State} (h : exec i s = .next t) (events : List HostEvent) :
    exec i (setInputs events s) = .next (setInputs events t) := by
  by_cases hi : i = .clr
  · subst hi
    obtain rfl : clearUnit s = t := Host.Outcome.next.inj h
    rfl
  · rw [exec_eq_unlessError hi] at h ⊢
    obtain rfl := Host.Outcome.next.inj h
    rw [unlessError_setInputs (commandEffect_setInputs i events s)]

/-- The same holds of every word the port takes, an illegal one included. -/
theorem takeCommand_setInputs {w : Word16} {s t : State} (h : takeCommand w s = .next t) (events : List HostEvent) :
    takeCommand w (setInputs events s) = .next (setInputs events t) := by
  rw [takeCommand] at h ⊢
  cases hw : decode w with
  | ok i =>
    rw [hw] at h
    exact exec_setInputs h events
  | error _ =>
    rw [hw] at h
    obtain rfl := Host.Outcome.next.inj h
    exact congrArg Host.Outcome.next (unlessError_setInputs rfl)

/-- A step with a command word waiting carries that word out, with the later events waiting (rule R46). -/
theorem step_of_waiting_command {w : Word16} {later : List HostEvent} {s : State} (hreset : s.resetLine = false)
    (h : s.inputs = .command w :: later) : step s = takeCommand w (setInputs later s) := by
  rw [step_event h]
  exact takeEvent_command (s := setInputs later s) hreset w

/-- A run goes on from the state its first step leaves. -/
theorem coreRun_succ_of_step {s t : State} (h : step s = .next t) (n : Nat) :
    Host.Core.run core (n + 1) s = Host.Core.run core n t := by
  have hcore : core.step s = .next t := h
  simp only [Host.Core.run, hcore]

/-- A run of words goes on from the state its first word leaves. -/
theorem runWords_cons_of_takeCommand {w : Word16} {s t : State} (h : takeCommand w s = .next t) (ws : List Word16) :
    runWords (w :: ws) s = runWords ws t := by
  rw [runWords, h]

/-- Settles O7, by induction on the waiting words: the step carries the first one out with the others waiting, the run
with none of them. -/
theorem waitingCommandsRunInOrder : Obligations.WaitingCommandsRunInOrder := by
  intro ws rest
  induction ws with
  | nil =>
    rintro s - hinputs
    exact congrArg (fun events => Host.Outcome.next (setInputs events s)) hinputs
  | cons w ws ih =>
    intro s hreset hinputs
    obtain ⟨t, ht, -, hline, hwaiting⟩ := takeCommand_next w (setInputs (ws.map .command ++ rest) s)
    have hstep : step s = .next t := (step_of_waiting_command hreset hinputs).trans ht
    have hrun : takeCommand w (setInputs rest s) = .next (setInputs rest t) := takeCommand_setInputs ht rest
    have htail : Host.Core.run core ws.length t = runWords ws (setInputs rest t) := ih t (hline.trans hreset) hwaiting
    exact (coreRun_succ_of_step hstep _).trans (htail.trans (runWords_cons_of_takeCommand hrun ws).symm)

/-! ## The register read map (rule R41) -/

/-- Appending a byte to a word is one more digit of base 256. -/
theorem append_byte_toNat {n : Nat} (x : BitVec n) (b : Byte) : (x ++ b).toNat = 256 * x.toNat + b.toNat := by
  rw [BitVec.toNat_append, ← Nat.shiftLeft_add_eq_or_of_lt b.isLt, Nat.shiftLeft_eq]
  omega

/-- Four bytes read as a big-endian number are the word that holds them, the first in its top byte. -/
theorem ofNat_beNat_four (a b c d : Byte) : BitVec.ofNat 32 (beNat [a, b, c, d]) = a ++ b ++ c ++ d := by
  apply BitVec.eq_of_toNat_eq
  have hword := (a ++ b ++ c ++ d).isLt
  simp only [append_byte_toNat] at hword ⊢
  simp only [beNat, List.foldl_cons, List.foldl_nil, BitVec.toNat_ofNat]
  omega

/-- Rule R41, indices 9 to 11: four bytes of the serial, the first the most significant. -/
theorem serialGroup_eq_append (s : State) (i : Nat) (hi : i + 4 ≤ 12) :
    serialGroup s i = s.ser[i] ++ s.ser[i + 1] ++ s.ser[i + 2] ++ s.ser[i + 3] := by
  have hbytes : (s.ser.toList.drop i).take 4 = [s.ser[i], s.ser[i + 1], s.ser[i + 2], s.ser[i + 3]] := by
    apply List.ext_getElem
    · simp only [List.length_take, List.length_drop, Vector.length_toList, List.length_cons, List.length_nil]
      omega
    · intro j h h'
      have hj : j < 4 := by simpa using h'
      interval_cases j <;> simp
  rw [serialGroup, hbytes, ofNat_beNat_four]

/-- The two halves of a 64-bit register, read one by one, make the register. -/
theorem extractLsb'_high_append_low (x : Word64) : x.extractLsb' 32 32 ++ x.extractLsb' 0 32 = x :=
  (BitVec.extractLsb'_append_extractLsb'_eq_extractLsb' rfl).trans BitVec.extractLsb'_eq_self

/-- The indices above those of rule R41 read zero. -/
theorem rd_reserved (s : State) {r : BitVec 5} (hr : 12 ≤ r.toNat) : rd s r = 0 := by
  have hne (k : BitVec 5) (hk : k.toNat < 12) : r ≠ k := by rintro rfl; omega
  rw [rd]
  simp [hne]

/-- Settles O49: a register of 64 bits is its two halves, the serial its three groups of four bytes. -/
theorem registerReadMap : Obligations.RegisterReadMap := fun s =>
  ⟨rfl, rfl, extractLsb'_high_append_low s.key, extractLsb'_high_append_low s.pt, extractLsb'_high_append_low s.ct, rfl,
    serialGroup_eq_append s 0 (by omega), serialGroup_eq_append s 4 (by omega), serialGroup_eq_append s 8 (by omega),
    fun _ hr => rd_reserved s hr⟩

/-! ## Several units (rules R49 and R211) -/

/-- One step of a unit by itself. -/
def unitStep (s : State) : State := stateAfter s (step s)

@[simp] theorem stepUnits_nil (p : Platform) : stepUnits [] p = p := rfl

@[simp] theorem stepUnits_cons (j : Nat) (ks : List Nat) (p : Platform) :
    stepUnits (j :: ks) p = stepUnits ks (stepUnit j p) := rfl

@[simp] theorem stepUnit_length (j : Nat) (p : Platform) : (stepUnit j p).length = p.length :=
  List.length_modify _ _ _

theorem stepUnit_getElem?_same (k : Nat) (p : Platform) : (stepUnit k p)[k]? = p[k]?.map unitStep :=
  List.getElem?_modify_eq _ _ _

theorem stepUnit_getElem?_of_ne {j k : Nat} (h : j ≠ k) (p : Platform) : (stepUnit j p)[k]? = p[k]? :=
  List.getElem?_modify_ne _ _ h

theorem stepUnits_length (ks : List Nat) (p : Platform) : (stepUnits ks p).length = p.length := by
  induction ks generalizing p with
  | nil => rfl
  | cons j ks ih => rw [stepUnits_cons, ih, stepUnit_length]

/-- Each unit takes as many steps as it is named, whatever stands between them. -/
theorem stepUnits_getElem? (ks : List Nat) (p : Platform) (k : Nat) :
    (stepUnits ks p)[k]? = p[k]?.map unitStep^[ks.count k] := by
  induction ks generalizing p with
  | nil => simp
  | cons j ks ih =>
    rw [stepUnits_cons, ih]
    by_cases h : j = k
    · subst h
      rw [stepUnit_getElem?_same, Option.map_map, List.count_cons_self, Function.iterate_succ]
    · rw [stepUnit_getElem?_of_ne h, List.count_cons_of_ne h]

/-- Settles O57: what becomes of a unit depends on how often it is named alone, and so not on the other names. -/
theorem unitsDoNotInterfere : Obligations.UnitsDoNotInterfere := by
  intro ks p k
  have hcount : (ks.filter (· == k)).count k = ks.count k := List.count_filter (beq_self_eq_true k)
  exact ⟨stepUnits_length ks p, by rw [stepUnits_getElem?, stepUnits_getElem?, hcount]⟩

end Sys2Proof.Proofs

/-! PROOFS of the family 30_encoding.md: the words that decode, by the command they are the word of, by their two fields
and by the row of the opcode map they select; what an illegal word does; the command port as the dispatcher. -/

namespace Sys2Proof.Proofs

open Sys2Proof.Machine Sys2Proof.Laws

/-! ## Words and commands (rules R60 to R63) -/

/-- Settles O1: the round trip holds of every command, since the type of its operand keeps it in range. -/
theorem encodedCommandDecodesToItself : Obligations.EncodedCommandDecodesToItself := fun i _ => decode_encode i

/-- A word is the word of a command when its fields are the opcode and the operand byte of that command. -/
theorem encode_eq_of_fields {w : Word16} {i : Instr} (hop : (fieldsOf w).op = opcode i)
    (himm : (fieldsOf w).imm8 = immediate i) : encode i = w := by
  rw [encode, ← hop, ← himm, append_fieldsOf]

/-- Settles O2, by the tests of the decoder in their order: an operand opcode leaves the low byte to the operand, and
every other answer of a command stands at one whole word. -/
theorem decodedCommandEncodesToItsWord : Obligations.DecodedCommandEncodesToItsWord := by
  intro w i h
  simp only [decode] at h
  split_ifs at h with hpushs hpushx hpushp hnop hclr hkdf hdec hcls hdecrypt
  all_goals obtain rfl := Except.ok.inj h
  · exact encode_eq_of_fields hpushs rfl
  · exact encode_eq_of_fields hpushx rfl
  · exact encode_eq_of_fields hpushp rfl
  · exact hnop.symm
  · exact hclr.symm
  · exact hkdf.symm
  · exact hdec.symm
  · exact hcls.symm
  · exact hdecrypt.symm

/-- Decoding is the inverse of encoding, in both directions. -/
theorem decode_eq_ok_iff {w : Word16} {i : Instr} : decode w = .ok i ↔ encode i = w :=
  ⟨decodedCommandEncodesToItsWord w i, fun h => h ▸ decode_encode i⟩

/-! ## Words and their fields (rules R60 and R64) -/

theorem fields_wellFormed_iff {f : CommandFields} :
    f.wellFormed = true ↔ f.op ∈ operandOpcodes ∨ (f.op ∈ plainOpcodes ∧ f.imm8 = 0) := by
  simp [CommandFields.wellFormed]

/-- The word of every command selects its row, and its fields are well-formed. -/
theorem encodesItsRow (i : Instr) : EncodesItsRow.Statement i := by
  cases i with
  | nop => exact EncodesItsRow.nop
  | clr => exact EncodesItsRow.clr
  | pushs b => exact EncodesItsRow.pushs b
  | pushx c => exact EncodesItsRow.pushx c
  | pushp b => exact EncodesItsRow.pushp b
  | kdf => exact EncodesItsRow.kdf
  | dec => exact EncodesItsRow.dec
  | cls => exact EncodesItsRow.cls
  | decrypt => exact EncodesItsRow.decrypt

/-- Every operand opcode is the opcode of a command that carries any given byte. -/
theorem exists_command_of_mem_operandOpcodes {op : Byte} (h : op ∈ operandOpcodes) (b : Byte) :
    ∃ i, op = opcode i ∧ b = immediate i := by
  simp only [operandOpcodes, List.mem_cons, List.not_mem_nil, or_false] at h
  rcases h with rfl | rfl | rfl
  · exact ⟨.pushs b, rfl, rfl⟩
  · exact ⟨.pushx b, rfl, rfl⟩
  · exact ⟨.pushp b, rfl, rfl⟩

/-- Every other opcode of the nine is the opcode of a command without an operand. -/
theorem exists_command_of_mem_plainOpcodes {op : Byte} (h : op ∈ plainOpcodes) :
    ∃ i, op = opcode i ∧ 0 = immediate i := by
  simp only [plainOpcodes, List.mem_cons, List.not_mem_nil, or_false] at h
  rcases h with rfl | rfl | rfl | rfl | rfl | rfl
  · exact ⟨.nop, rfl, rfl⟩
  · exact ⟨.clr, rfl, rfl⟩
  · exact ⟨.kdf, rfl, rfl⟩
  · exact ⟨.dec, rfl, rfl⟩
  · exact ⟨.cls, rfl, rfl⟩
  · exact ⟨.decrypt, rfl, rfl⟩

/-- A word decodes to a command exactly when its fields pass the check of rule R64. -/
theorem exists_decode_iff_wellFormed {w : Word16} : (∃ i, decode w = .ok i) ↔ (fieldsOf w).wellFormed = true := by
  simp only [decode_eq_ok_iff]
  constructor
  · rintro ⟨i, rfl⟩
    exact (encodesItsRow i).2
  · intro h
    rcases fields_wellFormed_iff.mp h with hop | ⟨hop, himm⟩
    · obtain ⟨i, hi, hb⟩ := exists_command_of_mem_operandOpcodes hop (fieldsOf w).imm8
      exact ⟨i, encode_eq_of_fields hi hb⟩
    · obtain ⟨i, hi, hb⟩ := exists_command_of_mem_plainOpcodes hop
      exact ⟨i, encode_eq_of_fields hi (himm.trans hb)⟩

/-- The illegal words are those whose fields fail the check of rule R64. -/
theorem not_decode_iff_not_wellFormed {w : Word16} :
    (∀ i, decode w ≠ .ok i) ↔ ¬ (fieldsOf w).wellFormed = true := by
  rw [← exists_decode_iff_wellFormed, not_exists]

/-! ## Words and rows (rule R62) -/

/-- The low byte of a row's mask: a command without an operand has its whole `imm8` compared. -/
def immediateMask : Instr → Byte
  | .pushs _ | .pushx _ | .pushp _ => 0x00
  | .nop | .clr | .kdf | .dec | .cls | .decrypt => 0xFF

theorem rowMask_eq_append (r : Instr) : rowMask r = 0xFF#8 ++ immediateMask r := by
  cases r <;> simp [rowMask, immediateMask]

theorem rowMatch_eq_append (r : Instr) : rowMatch r = opcode r ++ 0x00#8 := by
  cases r <;> simp [rowMatch, opcode]

/-- A word selects a row when it has the row's opcode, and a zero `imm8` where the row compares it. -/
theorem selectsRow_iff {w : Word16} {r : Instr} :
    selectsRow w r = true ↔ (fieldsOf w).op = opcode r ∧ (fieldsOf w).imm8 &&& immediateMask r = 0 := by
  have hand : w &&& rowMask r = (fieldsOf w).op ++ ((fieldsOf w).imm8 &&& immediateMask r) := by
    conv_lhs => rw [← append_fieldsOf w, rowMask_eq_append]
    exact BitVec.and_append.trans (congrArg (· ++ _) BitVec.and_allOnes)
  rw [selectsRow, beq_iff_eq, hand, rowMatch_eq_append]
  constructor
  · intro h
    have hfields := congrArg fieldsOf h
    rw [fieldsOf_append, fieldsOf_append] at hfields
    exact CommandFields.mk.inj hfields
  · rintro ⟨hop, himm⟩
    rw [hop, himm]
    rfl

/-- A row compares the whole `imm8` unless its opcode takes an operand. -/
theorem opcode_mem_or (r : Instr) :
    opcode r ∈ operandOpcodes ∨ (opcode r ∈ plainOpcodes ∧ immediateMask r = BitVec.allOnes 8) := by
  cases r <;> simp [opcode, operandOpcodes, plainOpcodes, immediateMask]

/-- A word that selects a row has well-formed fields. -/
theorem wellFormed_of_selectsRow {w : Word16} {r : Instr} (h : selectsRow w r = true) :
    (fieldsOf w).wellFormed = true := by
  obtain ⟨hop, himm⟩ := selectsRow_iff.mp h
  rw [fields_wellFormed_iff, hop]
  rcases opcode_mem_or r with hmem | ⟨hmem, hmask⟩
  · exact .inl hmem
  · exact .inr ⟨hmem, by rwa [hmask, BitVec.and_allOnes] at himm⟩

/-- A word that decodes selects the row of the command it decodes to. -/
theorem selectsRow_of_decode {w : Word16} {i : Instr} (h : decode w = .ok i) : selectsRow w i = true := by
  obtain rfl := decode_eq_ok_iff.mp h
  exact (encodesItsRow i).1

/-- The operand plays no part in a row: a row that a word selects is selected at its representative. -/
theorem exists_representative_of_selectsRow {w : Word16} {i : Instr} (h : selectsRow w i = true) :
    ∃ r ∈ rowRepresentatives, selectsRow w r = true := by
  cases i with
  | pushs b => exact ⟨.pushs 0, by decide, h⟩
  | pushx c => exact ⟨.pushx 0, by decide, h⟩
  | pushp b => exact ⟨.pushp 0, by decide, h⟩
  | nop => exact ⟨_, by decide, h⟩
  | clr => exact ⟨_, by decide, h⟩
  | kdf => exact ⟨_, by decide, h⟩
  | dec => exact ⟨_, by decide, h⟩
  | cls => exact ⟨_, by decide, h⟩
  | decrypt => exact ⟨_, by decide, h⟩

/-- No two rows have the same opcode. -/
theorem representative_eq_of_opcode_eq :
    ∀ r ∈ rowRepresentatives, ∀ r' ∈ rowRepresentatives, opcode r = opcode r' → r = r' := by decide

/-- Settles O3: a word selects the row of what it decodes to, and rows are told apart by their opcodes. -/
theorem decodeFollowsTheOpcodeMap : Obligations.DecodeFollowsTheOpcodeMap := by
  refine ⟨rfl, fun w => ⟨?_, ?_⟩, fun _ _ => selectsRow_of_decode, ?_⟩
  · rintro ⟨i, hi⟩
    exact exists_representative_of_selectsRow (selectsRow_of_decode hi)
  · rintro ⟨r, -, hr⟩
    exact exists_decode_iff_wellFormed.mpr (wellFormed_of_selectsRow hr)
  · intro w r hr r' hr' hsel hsel'
    obtain ⟨hop, -⟩ := selectsRow_iff.mp hsel
    obtain ⟨hop', -⟩ := selectsRow_iff.mp hsel'
    exact representative_eq_of_opcode_eq r hr r' hr' (hop.symm.trans hop')

/-! ## Illegal words (rule R64) -/

theorem illegalCommand_of_err_eq_zero {s : State} (h : s.err = 0) : illegalCommand s = .next (failWith .illegal s) :=
  congrArg Host.Outcome.next (unlessError_of_eq_zero h _)

theorem illegalCommand_of_err_ne_zero {s : State} (h : s.err ≠ 0) : illegalCommand s = .next s :=
  congrArg Host.Outcome.next (unlessError_of_ne_zero h _)

/-- The port carries out the command a word decodes to. -/
theorem takeCommand_of_decode {w : Word16} {i : Instr} (h : decode w = .ok i) (s : State) :
    takeCommand w s = exec i s := by
  rw [takeCommand, h]

/-- The port carries out the illegal command for a word that decodes to none. -/
theorem takeCommand_of_not_decode {w : Word16} (h : ∀ i, decode w ≠ .ok i) (s : State) :
    takeCommand w s = illegalCommand s := by
  rw [takeCommand]
  cases hw : decode w with
  | ok i => exact absurd hw (h i)
  | error _ => rfl

/-- The nine opcodes of rule R62 are those with an operand and those without. -/
theorem mem_nine_opcodes_iff {op : Byte} :
    op ∈ ([0x00, 0x01, 0x10, 0x11, 0x12, 0x20, 0x21, 0x22, 0x23] : List Byte)
      ↔ op ∈ operandOpcodes ∨ op ∈ plainOpcodes := by
  simp only [operandOpcodes, plainOpcodes, List.mem_cons, List.not_mem_nil, or_false]
  tauto

theorem not_mem_operandOpcodes_of_mem_plainOpcodes : ∀ op ∈ plainOpcodes, op ∉ operandOpcodes := by decide

/-- The two ways to fail the check: an opcode outside the nine, or an `imm8` where the command has no operand. -/
theorem not_wellFormed_iff {f : CommandFields} :
    ¬ f.wellFormed = true ↔
      ¬ (f.op ∈ operandOpcodes ∨ f.op ∈ plainOpcodes) ∨ (f.op ∈ plainOpcodes ∧ f.imm8 ≠ 0) := by
  have hdisjoint := not_mem_operandOpcodes_of_mem_plainOpcodes f.op
  rw [fields_wellFormed_iff]
  tauto

/-- Settles O4: the illegal words by their fields, and the illegal command by the error gate. -/
theorem illegalWordFailsOrIsIgnored : Obligations.IllegalWordFailsOrIsIgnored := by
  intro w
  constructor
  · have hlisted := not_congr (mem_nine_opcodes_iff (op := (fieldsOf w).op))
    exact not_decode_iff_not_wellFormed.trans (not_wellFormed_iff.trans (or_congr_left hlisted.symm))
  · intro s hillegal
    rw [takeCommand_of_not_decode hillegal]
    exact ⟨illegalCommand_of_err_eq_zero, illegalCommand_of_err_ne_zero⟩

/-! ## The dispatcher (rule R63) -/

/-- In the error state the port ignores every word but that of CLR (rule R203). -/
theorem takeCommand_of_err_ne_zero {w : Word16} (hw : w ≠ 0x0100) {s : State} (herr : s.err ≠ 0) :
    takeCommand w s = .next s := by
  rw [takeCommand]
  cases hi : decode w with
  | ok i =>
    have hclr : i ≠ .clr := by
      rintro rfl
      exact hw (decode_eq_ok_iff.mp hi).symm
    exact exec_of_err_ne_zero herr hclr
  | error _ => exact illegalCommand_of_err_ne_zero herr

/-- Settles O9: the model decodes first and tests `ERR` in each meaning, and the outcome is that of testing it first. -/
theorem commandPortIsTheDispatcher : Obligations.CommandPortIsTheDispatcher := by
  intro w s
  by_cases herr : s.err = 0
  · rw [if_neg (not_not_intro herr), takeCommand]
    cases decode w with
    | ok i => rfl
    | error _ => exact illegalCommand_of_err_eq_zero herr
  · rw [if_pos herr]
    by_cases hw : w = 0x0100
    · subst hw
      exact takeCommand_encode .clr s
    · rw [if_neg hw]
      exact takeCommand_of_err_ne_zero hw herr

/-- Settles O6: the waiting word is what the port takes, in the state with it taken out. -/
theorem stepRunsDecodedCommand : Obligations.StepRunsDecodedCommand := by
  intro s w rest hreset hinputs
  rw [step_of_waiting_command hreset hinputs]
  exact ⟨fun _ _ hi => takeCommand_of_decode hi _, fun hillegal => takeCommand_of_not_decode hillegal _⟩

/-! ## The words the spec spells out (rules R62, R64 and R66) -/

/-- Settles O5: nine words are the words of their commands, and the fields of the other four are not well-formed. -/
theorem spelledOutWordsDecode : Obligations.SpelledOutWordsDecode := by
  refine ⟨decode_encode .nop, decode_encode .clr, decode_encode (.pushs 0x30), decode_encode (.pushx 0x2D),
    decode_encode (.pushp 0xFF), decode_encode .kdf, decode_encode .dec, decode_encode .cls, decode_encode .decrypt,
    ?_, ?_, ?_, ?_⟩
  all_goals exact not_decode_iff_not_wellFormed.mpr (by decide)

end Sys2Proof.Proofs

/-! PROOFS of the family 40_frontend_operands.md: the character classes, one push of each stream with its frame, the
laws of the three operand streams, and the commuting of their pushes. -/

namespace Sys2Proof.Proofs

open Sys2Proof.Machine Sys2Proof.Laws

/-! ## Character classes (rule R80) -/

theorem hexVal_of_decimal {c : Byte} (h : 0x30 ≤ c.toNat ∧ c.toNat ≤ 0x39) :
    hexVal c = some (BitVec.ofNat 4 (c.toNat - 0x30)) := if_pos h

theorem hexVal_of_upper {c : Byte} (h : 0x41 ≤ c.toNat ∧ c.toNat ≤ 0x46) :
    hexVal c = some (BitVec.ofNat 4 (c.toNat - 0x41 + 10)) := by
  rw [hexVal, if_neg (by omega), if_pos h]

theorem hexVal_of_lower {c : Byte} (h : 0x61 ≤ c.toNat ∧ c.toNat ≤ 0x66) :
    hexVal c = some (BitVec.ofNat 4 (c.toNat - 0x61 + 10)) := by
  rw [hexVal, if_neg (by omega), if_neg (by omega), if_pos h]

theorem ofNat_four_toNat {n : Nat} (h : n < 16) : (BitVec.ofNat 4 n).toNat = n := by
  rw [BitVec.toNat_ofNat, Nat.mod_eq_of_lt h]

/-- Settles O20: each class of characters is one test of `HexVal`, and what lies between the classes is no digit. -/
theorem hexValOfEveryCharacter : Obligations.HexValOfEveryCharacter := by
  intro c
  refine ⟨fun h => ⟨_, hexVal_of_decimal h, ofNat_four_toNat (by omega)⟩,
    fun h => ⟨_, hexVal_of_upper h, ofNat_four_toNat (by omega)⟩,
    fun h => ⟨_, hexVal_of_lower h, ofNat_four_toNat (by omega)⟩, fun h => ?_, hexVal_dash⟩
  rw [← Option.not_isSome_iff_eq_none, hexVal_isSome_iff]
  omega

/-! ## One push (rules R81 to R83) -/

/-- Settles O18: the write of PUSHS, field by field. -/
theorem pushsStoresOneSerialByte : Obligations.PushsStoresOneSerialByte := fun b s herr =>
  ⟨decode_encode (.pushs b), pushSerialByte b s, exec_of_err_eq_zero herr _,
    storeSerialByte_getElem b s.scnt s.ser, satSucc_toNat s.scnt, rfl⟩

/-- A digit is shifted in at the low end of the ciphertext while fewer than sixteen characters are counted. -/
theorem shiftNibble_some_toNat {n : Byte} (hn : n.toNat < 16) (d : BitVec 4) (ct : Word64) :
    (shiftNibble (some d) n ct).toNat = (16 * ct.toNat + d.toNat) % 2 ^ 64 := by
  rw [shiftNibble_of_lt hn, shiftLeft_or_setWidth_toNat _ _ (by omega)]
  omega

/-- Settles O19: a dash is ignored, and any other character is told by `HexVal` to be a digit or none. -/
theorem pushxTakesOneXvalCharacter : Obligations.PushxTakesOneXvalCharacter := by
  intro c s herr
  refine ⟨decode_encode (.pushx c), ?_, fun hc => ⟨pushXvalChar c s, exec_of_err_eq_zero herr _, ?_, ?_, ?_,
    pushXvalChar_frame c s⟩⟩
  · rintro rfl
    rw [exec_of_err_eq_zero herr]
    exact congrArg Host.Outcome.next (pushXvalChar_dash s)
  · rw [pushXvalChar_xcnt hc, satSucc_toNat]
  · intro d hd
    rw [pushXvalChar_xbad hc, pushXvalChar_ct hc, hd]
    exact ⟨Bool.or_false _, fun hn => shiftNibble_some_toNat hn d s.ct, fun hn => shiftNibble_of_ge hn s.ct⟩
  · intro hnone
    rw [pushXvalChar_xbad hc, pushXvalChar_ct hc, hnone]
    exact ⟨Bool.or_true _, shiftNibble_none _ _⟩

/-- A byte is shifted in at the low end of the plaintext. -/
theorem pushPlainByte_pt_toNat (b : Byte) (s : State) :
    (pushPlainByte b s).pt.toNat = (256 * s.pt.toNat + b.toNat) % 2 ^ 64 := by
  rw [pushPlainByte_pt, shiftLeft_or_setWidth_toNat _ _ (by omega)]
  omega

/-- Settles O21: the write of PUSHP, field by field. -/
theorem pushpShiftsOnePlaintextByte : Obligations.PushpShiftsOnePlaintextByte := by
  intro b s herr
  refine ⟨decode_encode (.pushp b), pushPlainByte b s, exec_of_err_eq_zero herr _, pushPlainByte_pt_toNat b s,
    satSucc_toNat s.pcnt, ?_, rfl⟩
  rw [pushPlainByte_pv, pushPlainByte_pcnt, beq_iff_eq, ← BitVec.toNat_inj]
  rfl

/-! ## Numbers spelled digit by digit (rules R6 and R84) -/

/-- Reading digits from the most significant one on is the library's number of the reversed digits. -/
theorem foldl_digits_eq_ofDigits (base : Nat) (digit : Byte → Nat) (cs : List Byte) :
    cs.foldl (fun acc c => base * acc + digit c) 0 = Nat.ofDigits base (cs.map digit).reverse := by
  rw [Nat.ofDigits_eq_foldr, List.foldr_reverse, List.foldl_map]
  simp only [Nat.cast_id, Nat.add_comm]

/-- A number spelled with digits below the base is below the base to the power of the length. -/
theorem foldl_digits_lt {base : Nat} (hbase : 1 < base) {digit : Byte → Nat} (hdigit : ∀ c, digit c < base)
    (cs : List Byte) : cs.foldl (fun acc c => base * acc + digit c) 0 < base ^ cs.length := by
  have hdigits : ∀ x ∈ (cs.map digit).reverse, x < base := by
    simpa using fun c _ => hdigit c
  simpa [foldl_digits_eq_ofDigits] using Nat.ofDigits_lt_base_pow_length hbase hdigits

theorem beNat_lt (bs : List Byte) : beNat bs < 256 ^ bs.length :=
  foldl_digits_lt (by omega) (fun b => b.isLt) bs

/-- The bytes of the first part stand above those of the second. -/
theorem beNat_append (as bs : List Byte) : beNat (as ++ bs) = 256 ^ bs.length * beNat as + beNat bs := by
  simp only [beNat, foldl_digits_eq_ofDigits, List.map_append, List.reverse_append, Nat.ofDigits_append,
    List.length_reverse, List.length_map]
  exact Nat.add_comm _ _

/-- The number of a valid text fits in `CT`. -/
theorem xvalTextValue_lt {text : List Byte} (hvalid : xvalTextValid text = true) : xvalTextValue text < 2 ^ 64 := by
  obtain ⟨hlen, -⟩ := (Bool.and_eq_true _ _).mp hvalid
  have hlt := foldl_digits_lt (by omega) (fun c => ((hexVal c).getD 0).isLt) (text.filter (· != dash))
  rw [beq_iff_eq.mp hlen] at hlt
  exact hlt

/-! ## The xval stream (rule R84) -/

/-- From `XBAD = 0` the flag is set exactly by a character that is neither the dash nor a digit. -/
theorem pushText_xbad_iff (text : List Byte) {s : State} (hbad : s.xbad = false) :
    (pushText text s).xbad = true ↔ ∃ c ∈ text, c ≠ dash ∧ hexVal c = none := by
  rw [pushText_xbad, hbad, Bool.false_or, Bool.not_eq_true', List.all_eq_false]
  simp only [List.mem_filter, bne_iff_ne, Option.not_isSome_iff_eq_none, and_assoc]

/-- Settles O28: the state after the text, element by element. -/
theorem xvalTextIsStrippedCheckedAndDecoded : Obligations.XvalTextIsStrippedCheckedAndDecoded := by
  intro text s herr hcount hbad hct
  have hrun : runCommands (text.map .pushx) s = .next (pushText text s) := by
    simpa using runCommands_pushx_append text herr []
  have hvalid : (pushText text s).xvalid = xvalTextValid text := pushText_xvalid text hcount hbad
  refine ⟨_, hrun, ?_, pushText_xbad_iff text hbad, by rw [hvalid], fun hx => ?_, pushText_frame text s⟩
  · simp [pushText_xcnt_toNat, hcount]
  · rw [hvalid] at hx
    rw [pushText_ct_of_valid hx hcount hct, BitVec.toNat_ofNat, Nat.mod_eq_of_lt (xvalTextValue_lt hx)]

/-! ## The serial stream (rule R85) -/

/-- From an empty buffer `SVALID` is the source's condition on the length. -/
theorem pushSerial_svalid_iff (bytes : List Byte) {s : State} (hcount : s.scnt = 0) :
    (pushSerial bytes s).svalid = true ↔ bytes.length = 12 := by
  have hzero : s.scnt.toNat = 0 := congrArg BitVec.toNat hcount
  rw [State.svalid, pushSerial_scnt_toNat, hzero, beq_iff_eq, serialLen]
  omega

/-- From an empty buffer the serial is stored from its first byte on, and the rest stays zero. -/
theorem pushSerial_ser_of_empty (bytes : List Byte) {s : State} (hcount : s.scnt = 0)
    (hser : s.ser = Vector.replicate 12 0) (i : Fin 12) : (pushSerial bytes s).ser[i] = bytes.getD i.val 0 := by
  have hzero : s.scnt.toNat = 0 := congrArg BitVec.toNat hcount
  have hempty : s.ser[i] = 0 := by simp [hser]
  rw [pushSerial_ser, hzero, if_neg (Nat.not_lt_zero _), Nat.sub_zero, hempty]

/-- Pushing a serial leaves the verdict on the xval alone. -/
@[simp] theorem pushSerial_xvalid (bytes : List Byte) (s : State) : (pushSerial bytes s).xvalid = s.xvalid := by
  rw [State.xvalid, State.xvalid, pushSerial_xcnt, pushSerial_xbad]

/-- KDF rejects a serial that is not of twelve bytes (rule R112). -/
theorem exec_kdf_of_not_svalid {s : State} (herr : s.err = 0) (hs : s.svalid = false) :
    exec .kdf s = .next (failWith .serial s) := by
  rw [exec_of_err_eq_zero herr, commandEffect]
  rcases deriveKey_cases s with ⟨hvalid, -⟩ | ⟨-, hfail⟩
  · exact absurd (hs.symm.trans hvalid) Bool.false_ne_true
  · rw [hfail]

/-- Settles O29: the state after the serial, element by element, and the two commands that judge its length. -/
theorem serialIsStoredAndCounted : Obligations.SerialIsStoredAndCounted := by
  intro bytes s herr hcount hser
  have hrun : runCommands (bytes.map .pushs) s = .next (pushSerial bytes s) := by
    simpa using runCommands_pushs_append bytes herr []
  have hend : (pushSerial bytes s).err = 0 := (pushSerial_err bytes s).trans herr
  have hvalid := pushSerial_svalid_iff bytes hcount
  have hinvalid : bytes.length ≠ 12 → (pushSerial bytes s).svalid = false := fun hlen =>
    Bool.eq_false_iff.mpr (mt hvalid.mp hlen)
  refine ⟨_, hrun, ?_, pushSerial_ser_of_empty bytes hcount hser, hvalid,
    fun hlen => exec_kdf_of_not_svalid hend (hinvalid hlen), fun hlen hx => ?_, pushSerial_frame bytes s⟩
  · simp [pushSerial_scnt_toNat, hcount]
  · rw [exec_decrypt_of_malformed hend (.inr (hinvalid hlen)), pushSerial_xvalid, if_pos hx]

/-! ## The plaintext stream (rule R86) -/

/-- The state after the bytes of a plaintext are pushed, the unit not being in the error state. -/
def pushPlain (bytes : List Byte) (s : State) : State := bytes.foldl (fun t b => pushPlainByte b t) s

@[simp] theorem pushPlain_nil (s : State) : pushPlain [] s = s := rfl

@[simp] theorem pushPlain_cons (b : Byte) (bs : List Byte) (s : State) :
    pushPlain (b :: bs) s = pushPlain bs (pushPlainByte b s) := rfl

theorem runCommands_pushp_append (bytes : List Byte) {s : State} (h : s.err = 0) (rest : List Instr) :
    runCommands (bytes.map .pushp ++ rest) s = runCommands rest (pushPlain bytes s) :=
  runCommands_map_append (f := .pushp) pushPlainByte_err bytes h rest

theorem pushPlain_pcnt_toNat (bytes : List Byte) (s : State) :
    (pushPlain bytes s).pcnt.toNat = min (s.pcnt.toNat + bytes.length) 255 := by
  induction bytes generalizing s with
  | nil =>
    have := s.pcnt.isLt
    simp only [pushPlain_nil, List.length_nil]
    omega
  | cons b bs ih =>
    rw [pushPlain_cons, ih, pushPlainByte_pcnt, satSucc_toNat, List.length_cons]
    omega

/-- Pushing keeps `PV` the test of the count for eight. -/
theorem pushPlain_pv (bytes : List Byte) {s : State} (h : s.pv = (s.pcnt.toNat == blockLen)) :
    (pushPlain bytes s).pv = ((pushPlain bytes s).pcnt.toNat == blockLen) := by
  induction bytes generalizing s with
  | nil => exact h
  | cons b bs ih => exact ih rfl

/-- The bytes pushed are appended to the number that the plaintext spells, modulo `2^64`. -/
theorem pushPlain_pt (bytes : List Byte) {s : State} {v : Nat} (h : s.pt = BitVec.ofNat 64 v) :
    (pushPlain bytes s).pt = BitVec.ofNat 64 (bytes.foldl (fun acc b => 256 * acc + b.toNat) v) := by
  induction bytes generalizing s v with
  | nil => exact h
  | cons b bs ih =>
    apply ih
    apply BitVec.eq_of_toNat_eq
    rw [pushPlainByte_pt_toNat, h, BitVec.toNat_ofNat, BitVec.toNat_ofNat, Nat.add_mod, Nat.mul_mod_mod, ← Nat.add_mod]

/-- The halves of a block are its quotient and its remainder by `2^32` (rule R180). -/
theorem highBits_toNat (pt : Word64) : (highBits pt).toNat = pt.toNat / 2 ^ 32 := by
  have := pt.isLt
  rw [highBits, BitVec.extractLsb'_toNat, Nat.shiftRight_eq_div_pow]
  omega

theorem lowBits_toNat (pt : Word64) : (lowBits pt).toNat = pt.toNat % 2 ^ 32 := by
  rw [lowBits, BitVec.extractLsb'_toNat, Nat.shiftRight_zero]

/-- The halves of a block of eight bytes are its first and its last four bytes. -/
theorem halves_of_toNat_eq_beNat {pt : Word64} {bytes : List Byte} (hlen : bytes.length = 8)
    (hpt : pt.toNat = beNat bytes) :
    (highBits pt).toNat = beNat (bytes.take 4) ∧ (lowBits pt).toNat = beNat (bytes.drop 4) := by
  have hdrop : (bytes.drop 4).length = 4 := by rw [List.length_drop, hlen]
  have hlow := beNat_lt (bytes.drop 4)
  have hsplit := beNat_append (bytes.take 4) (bytes.drop 4)
  rw [hdrop] at hlow
  rw [List.take_append_drop, hdrop] at hsplit
  rw [highBits_toNat, lowBits_toNat, hpt, hsplit]
  omega

/-- Settles O30: the count, `PV` as its test for eight, and the block of eight bytes with its halves. -/
theorem plaintextIsPushedBigEndian : Obligations.PlaintextIsPushedBigEndian := by
  intro bytes s herr hcount hpt hpv
  have hrun : runCommands (bytes.map .pushp) s = .next (pushPlain bytes s) := by
    simpa using runCommands_pushp_append bytes herr []
  have hend : (pushPlain bytes s).pcnt.toNat = min bytes.length 255 := by
    simp [pushPlain_pcnt_toNat, hcount]
  refine ⟨_, hrun, hend, ?_, fun hlen => ?_⟩
  · rw [pushPlain_pv bytes (by rw [hpv, hcount, blockLen]; decide), hend, beq_iff_eq, blockLen]
    omega
  · have hfits : beNat bytes < 2 ^ 64 := by
      have hlt := beNat_lt bytes
      rwa [hlen] at hlt
    have hblock : (pushPlain bytes s).pt.toNat = beNat bytes := by
      rw [pushPlain_pt bytes (v := 0) hpt, BitVec.toNat_ofNat]
      exact Nat.mod_eq_of_lt hfits
    exact ⟨hblock, halves_of_toNat_eq_beNat hlen hblock⟩

/-! ## Pushes of different streams (rule R87) -/

/-- The commands that push, by their stream. -/
theorem push_of_streamOf {i : Instr} {a : Stream} (h : streamOf i = some a) :
    (a = .serial ∧ ∃ b, i = .pushs b) ∨ (a = .xval ∧ ∃ c, i = .pushx c) ∨ (a = .plain ∧ ∃ b, i = .pushp b) := by
  cases i with
  | pushs b => exact .inl ⟨(Option.some.inj h).symm, b, rfl⟩
  | pushx c => exact .inr (.inl ⟨(Option.some.inj h).symm, c, rfl⟩)
  | pushp b => exact .inr (.inr ⟨(Option.some.inj h).symm, b, rfl⟩)
  | nop | clr | kdf | dec | cls | decrypt => exact absurd h (by simp [streamOf])

theorem pushSerialByte_pushXvalChar (b c : Byte) (s : State) :
    pushSerialByte b (pushXvalChar c s) = pushXvalChar c (pushSerialByte b s) := by
  by_cases hc : c = dash
  · rw [hc, pushXvalChar_dash, pushXvalChar_dash]
  · rw [pushXvalChar, if_neg hc, pushXvalChar, if_neg hc]
    rfl

theorem pushPlainByte_pushXvalChar (b c : Byte) (s : State) :
    pushPlainByte b (pushXvalChar c s) = pushXvalChar c (pushPlainByte b s) := by
  by_cases hc : c = dash
  · rw [hc, pushXvalChar_dash, pushXvalChar_dash]
  · rw [pushXvalChar, if_neg hc, pushXvalChar, if_neg hc]
    rfl

theorem pushSerialByte_pushPlainByte (b p : Byte) (s : State) :
    pushSerialByte b (pushPlainByte p s) = pushPlainByte p (pushSerialByte b s) := rfl

/-- No push writes what a push of another stream reads or writes. -/
theorem commandEffect_comm_of_streamOf_ne {i j : Instr} {a b : Stream} (hi : streamOf i = some a)
    (hj : streamOf j = some b) (hab : a ≠ b) (s : State) :
    commandEffect i (commandEffect j s) = commandEffect j (commandEffect i s) := by
  rcases push_of_streamOf hi with ⟨rfl, x, rfl⟩ | ⟨rfl, x, rfl⟩ | ⟨rfl, x, rfl⟩ <;>
    rcases push_of_streamOf hj with ⟨rfl, y, rfl⟩ | ⟨rfl, y, rfl⟩ | ⟨rfl, y, rfl⟩
  · exact absurd rfl hab
  · exact pushSerialByte_pushXvalChar x y s
  · exact pushSerialByte_pushPlainByte x y s
  · exact (pushSerialByte_pushXvalChar y x s).symm
  · exact absurd rfl hab
  · exact (pushPlainByte_pushXvalChar y x s).symm
  · exact (pushSerialByte_pushPlainByte y x s).symm
  · exact pushPlainByte_pushXvalChar x y s
  · exact absurd rfl hab

theorem ne_clr_of_streamOf {i : Instr} {a : Stream} (hi : streamOf i = some a) : i ≠ .clr := by
  rintro rfl
  exact absurd hi (by simp [streamOf])

/-- A push records no error (rules R81 to R83). -/
theorem commandEffect_err_of_streamOf {i : Instr} {a : Stream} (hi : streamOf i = some a) (s : State) :
    (commandEffect i s).err = s.err := by
  rcases push_of_streamOf hi with ⟨-, b, rfl⟩ | ⟨-, c, rfl⟩ | ⟨-, b, rfl⟩
  · exact pushSerialByte_err b s
  · exact pushXvalChar_err c s
  · exact pushPlainByte_err b s

/-- Two pushes have one effect after the other, or none in the error state. -/
theorem runCommands_two_pushes {i j : Instr} {a b : Stream} (hi : streamOf i = some a) (hj : streamOf j = some b)
    (s : State) :
    runCommands [i, j] s = .next (if s.err = 0 then commandEffect j (commandEffect i s) else s) := by
  by_cases herr : s.err = 0
  · have hkept : (commandEffect i s).err = 0 := (commandEffect_err_of_streamOf hi s).trans herr
    rw [runCommands_cons_of_exec (exec_of_err_eq_zero herr i),
      runCommands_cons_of_exec (exec_of_err_eq_zero hkept j), runCommands_nil, if_pos herr]
  · rw [runCommands_cons_of_exec (exec_of_err_ne_zero herr (ne_clr_of_streamOf hi)),
      runCommands_cons_of_exec (exec_of_err_ne_zero herr (ne_clr_of_streamOf hj)), runCommands_nil, if_neg herr]

/-- Settles O31: either order has the same two effects, and the effects of pushes to two streams commute. -/
theorem operandStreamsCommute : Obligations.OperandStreamsCommute := by
  intro i j a b s hi hj hab
  rw [runCommands_two_pushes hi hj, runCommands_two_pushes hj hi, commandEffect_comm_of_streamOf_ne hi hj hab]

end Sys2Proof.Proofs

/-! PROOFS of the family 41_kdf_hmac_sha1.md: the command KDF with its frame, the padding of SHA-1, and the derivation
as four compressions. -/

namespace Sys2Proof.Proofs

open Sys2Proof.Machine Sys2Proof.Laws

/-! ## The command KDF (rule R112) -/

/-- KDF on a serial of twelve bytes writes the derived key and marks it valid. -/
theorem exec_kdf_of_svalid {s : State} (herr : s.err = 0) (hs : s.svalid = true) :
    exec .kdf s = .next (loadKey (kdf s.ser) s) := by
  rw [exec_of_err_eq_zero herr, commandEffect, deriveKey, if_pos hs]

/-- Settles O22: the two outcomes of KDF by the count of the serial, the frame being that of `loadKey`. -/
theorem kdfDerivesTheKey : Obligations.KdfDerivesTheKey := by
  refine ⟨decode_encode .kdf, fun s herr => ⟨fun hcount => ?_, fun hcount => ?_⟩⟩
  · exact exec_kdf_of_svalid herr ((svalid_iff s).mpr hcount)
  · exact exec_kdf_of_not_svalid herr (Bool.eq_false_iff.mpr (mt (svalid_iff s).mp hcount))

/-! ## The padding of SHA-1 (rule R105) -/

/-- The zeros of the padding complete a block. -/
theorem sha1PadZeros_completes (n : Nat) : (n + 1 + sha1PadZeros n + 8) % 64 = 0 := by
  rw [sha1PadZeros]
  omega

/-- No smaller number of zeros completes a block. -/
theorem sha1PadZeros_le {n y : Nat} (h : (n + 1 + y + 8) % 64 = 0) : sha1PadZeros n ≤ y := by
  rw [sha1PadZeros]
  omega

/-- Settles O35: the zeros of the padding, their number, and the length of the whole. -/
theorem sha1PaddingCompletesTheBlock : Obligations.Sha1PaddingCompletesTheBlock := fun m =>
  ⟨sha1PadZeros m.length, by simp [sha1Pad], sha1PadZeros_completes m.length, fun _ => sha1PadZeros_le,
    sha1Pad_length m⟩

/-! ## SHA-1 of a message of two blocks (rule R107) -/

/-- The padding of a message that begins with a whole block stands in what follows that block. -/
theorem sha1Pad_block_append {block : List Byte} (hblock : block.length = 64) (m : List Byte) :
    sha1Pad (block ++ m) = block ++ (m ++ [0x80] ++ List.replicate (sha1PadZeros (64 + m.length)) 0
      ++ beBytes 8 (8 * (64 + m.length))) := by
  simp [sha1Pad, hblock]

theorem sha1Blocks_zero (p : List Byte) (h : Sha1Words) : sha1Blocks 0 p h = h := rfl

/-- One block more is one compression first. Proved by the defining equation: with `rfl` the kernel runs out of depth. -/
theorem sha1Blocks_succ (n : Nat) (p : List Byte) (h : Sha1Words) :
    sha1Blocks (n + 1) p h = sha1Blocks n (p.drop 64) (sha1Compress h (p.take 64)) := by
  rw [sha1Blocks.eq_def]

/-- SHA-1 of a message that its padding makes two blocks is two compressions. -/
theorem sha1_of_two_blocks {m first second : List Byte} (hpad : sha1Pad m = first ++ second)
    (hfirst : first.length = 64) (hsecond : second.length = 64) :
    sha1 m = sha1Digest (sha1Compress (sha1Compress sha1Init first) second) := by
  have hcount : (first ++ second).length / 64 = 2 := by rw [List.length_append, hfirst, hsecond]
  rw [sha1, hpad, hcount, sha1Blocks_succ, sha1Blocks_succ, sha1Blocks_zero, List.take_left' hfirst,
    List.drop_left' hfirst, List.take_of_length_le hsecond.le]

@[simp] theorem sha1Digest_length (h : Sha1Words) : (sha1Digest h).length = 20 := by simp [sha1Digest]

/-! ## The big-endian bytes of a number (rule R6) -/

/-- The last byte of a number is its remainder by 256, the others are the bytes of the quotient. -/
theorem beBytes_succ (n v : Nat) : beBytes (n + 1) v = beBytes n (v / 256) ++ [BitVec.ofNat 8 v] := by
  rw [beBytes, beBytes, List.range_succ, List.map_append]
  congr 1
  · refine List.map_congr_left fun i hi => ?_
    have hi' : i < n := List.mem_range.mp hi
    have hshift : 8 * (n + 1 - 1 - i) = 8 + 8 * (n - 1 - i) := by omega
    rw [hshift, Nat.shiftRight_add, Nat.shiftRight_eq_div_pow v]
  · simp

/-- The bytes of a number spell it, as far as they reach. -/
theorem beNat_beBytes (n v : Nat) : beNat (beBytes n v) = v % 256 ^ n := by
  induction n generalizing v with
  | zero => simp [beBytes, Nat.mod_one]
  | succ n ih =>
    have hpow : 256 ^ (n + 1) = 256 * 256 ^ n := Nat.pow_succ'
    rw [beBytes_succ, beNat_append_singleton, ih, BitVec.toNat_ofNat, hpow, Nat.mod_mul]
    exact Nat.add_comm _ _

theorem beNat_beBytes_four_toNat (w : Word32) : beNat (beBytes 4 w.toNat) = w.toNat := by
  rw [beNat_beBytes]
  exact Nat.mod_eq_of_lt w.isLt

/-- The number of the first eight bytes of a digest is its first two words (rules R100 and R110). -/
theorem ofNat_beNat_take_sha1Digest (h : Sha1Words) :
    BitVec.ofNat 64 (beNat ((sha1Digest h).take keyLen)) = h.a ++ h.b := by
  have htake : (sha1Digest h).take keyLen = beBytes 4 h.a.toNat ++ beBytes 4 h.b.toNat := by
    rw [sha1Digest, List.append_assoc, List.append_assoc]
    exact List.take_left' (by simp [keyLen])
  apply BitVec.eq_of_toNat_eq
  have hword := (h.a ++ h.b).isLt
  rw [BitVec.toNat_append, ← Nat.shiftLeft_add_eq_or_of_lt h.b.isLt, Nat.shiftLeft_eq] at hword ⊢
  rw [htake, beNat_append, beBytes_length, beNat_beBytes_four_toNat, beNat_beBytes_four_toNat, BitVec.toNat_ofNat]
  omega

/-! ## The four blocks (rule R110) -/

@[simp] theorem kdfKeyBlock_length (pad : Byte) (ser : Vector Byte 12) : (kdfKeyBlock pad ser).length = 64 := by
  simp [kdfKeyBlock]

theorem kdfInnerBlock_length : kdfInnerBlock.length = 64 := rfl

@[simp] theorem kdfOuterBlock_length (h : Sha1Words) : (kdfOuterBlock h).length = 64 := by simp [kdfOuterBlock]

/-- A serial is no longer than a block, so HMAC fills it with zeros, and the zeros become pad bytes. -/
theorem hmacPad_serial (pad : Byte) (ser : Vector Byte 12) : hmacPad pad ser.toList = kdfKeyBlock pad ser := by
  simp [hmacPad, hmacKeyBlock, hmacBlockSize, kdfKeyBlock]

/-- The message of the derivation after a block is padded to `I2`. -/
theorem sha1Pad_inner {block : List Byte} (hblock : block.length = 64) :
    sha1Pad (block ++ kdfMessage) = block ++ kdfInnerBlock := by
  rw [sha1Pad_block_append hblock]
  rfl

/-- A digest after a block is padded to `O2`. -/
theorem sha1Pad_outer {block : List Byte} (hblock : block.length = 64) (h : Sha1Words) :
    sha1Pad (block ++ sha1Digest h) = block ++ kdfOuterBlock h := by
  rw [sha1Pad_block_append hblock, sha1Digest_length]
  rfl

/-- The derivation through the general HMAC is the one through the four blocks. -/
theorem kdf_eq_kdfFourBlocks (ser : Vector Byte 12) : kdf ser = kdfFourBlocks ser := by
  have hinner := sha1_of_two_blocks (sha1Pad_inner (kdfKeyBlock_length 0x36 ser)) (kdfKeyBlock_length 0x36 ser)
    kdfInnerBlock_length
  have houter (h : Sha1Words) := sha1_of_two_blocks (sha1Pad_outer (kdfKeyBlock_length 0x5C ser) h)
    (kdfKeyBlock_length 0x5C ser) (kdfOuterBlock_length h)
  rw [kdf, hmacSha1, hmacPad_serial, hmacPad_serial, hinner, houter, ofNat_beNat_take_sha1Digest, kdfFourBlocks]

/-- Settles O34: the derivation by its blocks, their lengths, and the sixteen words of `I2`. -/
theorem kdfIsFourCompressions : Obligations.KdfIsFourCompressions :=
  ⟨kdf_eq_kdfFourBlocks, fun ser => ⟨kdfKeyBlock_length 0x36 ser, kdfKeyBlock_length 0x5C ser⟩,
    kdfInnerBlock_length, kdfOuterBlock_length, by decide⟩

end Sys2Proof.Proofs

/-! PROOFS of the family 42_des_decrypt.md: the command DEC with its frame, permutation tables that undo each other, the
Feistel network run backwards, what the key schedule reads of a key, complements, and the weak keys. -/

namespace Sys2Proof.Proofs

open Sys2Proof.Machine Sys2Proof.Laws

/-! ## The command DEC (rule R145) -/

/-- Settles O23: the three tests of DEC in the rule's order, the frame of the success being that of `loadPlaintext`. -/
theorem decDecryptsTheBlock : Obligations.DecDecryptsTheBlock := by
  refine ⟨decode_encode .dec, fun s herr => ?_⟩
  rw [exec_of_err_eq_zero herr, commandEffect, decryptBlock]
  refine ⟨fun hcount hbad hkv htaken => ?_, fun hinvalid => ?_, fun hcount hbad hkv => ?_,
    fun hcount hbad hkv hrefused => ?_⟩
  · simp [(xvalid_iff s).mpr ⟨hcount, hbad⟩, hkv, htaken, loadPlaintext, clearClassification, blockLen]
  · simp [Bool.eq_false_iff.mpr (mt (xvalid_iff s).mp hinvalid)]
  · simp [(xvalid_iff s).mpr ⟨hcount, hbad⟩, hkv]
  · simp [(xvalid_iff s).mpr ⟨hcount, hbad⟩, hkv, hrefused]

/-! ## Permutation tables (rule R131) -/

/-- Every bit of a permuted word is the bit of the word that one entry of the table names. -/
theorem exists_entry_perm_getLsbD {m : Nat} {table : List Nat} (hm : table.length = m) {i : Nat} (hi : i < m) :
    ∃ j ∈ table, ∀ {n : Nat} (x : BitVec n), (perm m table x).getLsbD i = dbit x j := by
  have hentry : m - 1 - i < table.length := by omega
  refine ⟨table[m - 1 - i], List.getElem_mem hentry, fun x => ?_⟩
  rw [perm_getLsbD table hm x i hi, List.getD_eq_getElem table 0 hentry]

/-- A table reads of a word no bit but those it names. -/
theorem perm_congr {n m : Nat} {table : List Nat} (hm : table.length = m) {x y : BitVec n}
    (h : ∀ j ∈ table, dbit x j = dbit y j) : perm m table x = perm m table y := by
  refine BitVec.eq_of_getLsbD_eq fun i hi => ?_
  obtain ⟨j, hj, hbit⟩ := exists_entry_perm_getLsbD hm hi
  rw [hbit, hbit, h j hj]

/-- The entries of `second` lead back through `first`: entry `j` names the place at which `first` has `j`. -/
def UndoesTable (m : Nat) (first second : List Nat) : Prop :=
  ∀ i < m, 1 ≤ second.getD i 0 ∧ second.getD i 0 ≤ m ∧ first.getD (second.getD i 0 - 1) 0 = i + 1

/-- A table that leads back through another undoes its permutation. -/
theorem perm_perm_of_undoesTable {m : Nat} {first second : List Nat} (hfirst : first.length = m)
    (hsecond : second.length = m) (h : UndoesTable m first second) (x : BitVec m) :
    perm m second (perm m first x) = x := by
  refine BitVec.eq_of_getLsbD_eq fun i hi => ?_
  obtain ⟨hlow, hhigh, hback⟩ := h (m - 1 - i) (by omega)
  have hplace : m - (m - 1 - i + 1) = i := by omega
  rw [perm_getLsbD second hsecond _ i hi, perm_dbit first hfirst x _ hlow hhigh, hback, dbit, hplace]

theorem tableFP_undoes_tableIP : UndoesTable 64 tableIP tableFP := by unfold UndoesTable; decide

theorem tableIP_undoes_tableFP : UndoesTable 64 tableFP tableIP := by unfold UndoesTable; decide

theorem perm_FP_perm_IP (x : Word64) : perm 64 tableFP (perm 64 tableIP x) = x :=
  perm_perm_of_undoesTable (m := 64) rfl rfl tableFP_undoes_tableIP x

theorem perm_IP_perm_FP (x : Word64) : perm 64 tableIP (perm 64 tableFP x) = x :=
  perm_perm_of_undoesTable (m := 64) rfl rfl tableIP_undoes_tableFP x

/-- Settles O36: each of the two tables leads back through the other. -/
theorem finalPermutationInvertsInitial : Obligations.FinalPermutationInvertsInitial := fun x =>
  ⟨perm_FP_perm_IP x, perm_IP_perm_FP x⟩

/-! ## The network backwards (rule R143) -/

/-- One subkey more is one round first (rule R142). -/
theorem desRounds_cons (k : BitVec 48) (ks : List (BitVec 48)) (l r : Word32) :
    desRounds (k :: ks) (l, r) = desRounds ks (r, l ^^^ desF r k) := rfl

/-- The rounds in the opposite order, from the exchanged halves, lead back to the exchanged halves: whatever `F` is, its
value is added twice. -/
theorem desRounds_reverse_swap (ks : List (BitVec 48)) (lr : Word32 × Word32) :
    desRounds ks.reverse (desRounds ks lr).swap = lr.swap := by
  induction ks generalizing lr with
  | nil => rfl
  | cons k ks ih =>
    obtain ⟨l, r⟩ := lr
    calc desRounds (k :: ks).reverse (desRounds (k :: ks) (l, r)).swap
        = desRounds [k] (desRounds ks.reverse (desRounds ks (r, l ^^^ desF r k)).swap) := by
          rw [List.reverse_cons, desRounds_append, desRounds_cons k ks]
      _ = desRounds [k] (l ^^^ desF r k, r) := by rw [ih, Prod.swap_prod_mk]
      _ = (l, r).swap := by simp [desRounds]

/-- The two halves of a word, joined again. -/
theorem extract_append_extract (x : Word64) : x.extractLsb' 32 32 ++ x.extractLsb' 0 32 = x := by
  rw [BitVec.extractLsb'_append_extractLsb'_eq_extractLsb' (by rfl), BitVec.extractLsb'_eq_self]

/-- The network with the subkeys in the opposite order undoes the network. -/
theorem desNetwork_reverse_desNetwork (ks : List (BitVec 48)) (x : Word64) :
    desNetwork ks.reverse (desNetwork ks x) = x := by
  have hback := desRounds_reverse_swap ks ((perm 64 tableIP x).extractLsb' 32 32, (perm 64 tableIP x).extractLsb' 0 32)
  rw [Prod.swap, Prod.swap_prod_mk] at hback
  rw [desNetwork, desNetwork, perm_IP_perm_FP, BitVec.extractLsb'_append_eq_left, BitVec.extractLsb'_append_eq_right,
    hback, extract_append_extract, perm_FP_perm_IP]

theorem desDec_desEnc (key x : Word64) : desDec key (desEnc key x) = x :=
  desNetwork_reverse_desNetwork (subKeys key) x

theorem desEnc_desDec (key x : Word64) : desEnc key (desDec key x) = x := by
  have h := desNetwork_reverse_desNetwork (subKeys key).reverse x
  rwa [List.reverse_reverse] at h

/-- Settles O37: the two directions have each other's subkeys in the opposite order. -/
theorem decryptionInvertsEncryption : Obligations.DecryptionInvertsEncryption := fun key x =>
  ⟨desDec_desEnc key x, desEnc_desDec key x⟩

/-- Settles O38: encryption under the same key is the inverse function. -/
theorem decryptionIsABijection : Obligations.DecryptionIsABijection := fun key =>
  Function.bijective_iff_has_inverse.mpr ⟨desEnc key, desEnc_desDec key, desDec_desEnc key⟩

/-! ## Parity bits (rule R138) -/

/-- Permuted choice 1 names no parity bit. -/
theorem dbit_of_mem_tablePC1 : ∀ j ∈ tablePC1, dbit (0xFEFEFEFEFEFEFEFE : Word64) j = true := by decide

/-- A mask of parity bits has no bit that permuted choice 1 names. -/
theorem dbit_parityMask_eq_false {m : Word64} (hm : m &&& 0xFEFEFEFEFEFEFEFE = 0) {j : Nat} (hj : j ∈ tablePC1) :
    dbit m j = false := by
  have hbit : (m &&& 0xFEFEFEFEFEFEFEFE).getLsbD (64 - j) = false := by rw [hm]; exact BitVec.getLsbD_zero
  rw [BitVec.getLsbD_and] at hbit
  have hread : (0xFEFEFEFEFEFEFEFE : Word64).getLsbD (64 - j) = true := dbit_of_mem_tablePC1 j hj
  rwa [hread, Bool.and_true] at hbit

/-- The key schedule does not depend on the parity bits. -/
theorem subKeys_xor_parityMask (key : Word64) {m : Word64} (hm : m &&& 0xFEFEFEFEFEFEFEFE = 0) :
    subKeys (key ^^^ m) = subKeys key := by
  have hchoice : perm 56 tablePC1 (key ^^^ m) = perm 56 tablePC1 key := by
    refine perm_congr (m := 56) rfl fun j hj => ?_
    have hmask : m.getLsbD (64 - j) = false := dbit_parityMask_eq_false hm hj
    rw [dbit, dbit, BitVec.getLsbD_xor, hmask, Bool.xor_false]
  rw [subKeys, hchoice, subKeys]

/-- Settles O39: the block is decrypted under the same subkeys. -/
theorem keyParityBitsAreIgnored : Obligations.KeyParityBitsAreIgnored := by
  intro key m block hm
  rw [desDec, subKeys_xor_parityMask key hm, desDec]

/-! ## Complements (rule R146) -/

theorem dbit_not {n : Nat} (x : BitVec n) {j : Nat} (hj : 1 ≤ j ∧ j ≤ n) : dbit (~~~x) j = !dbit x j := by
  have hlt : n - j < n := by omega
  rw [dbit, dbit, BitVec.getLsbD_not, decide_eq_true hlt, Bool.true_and]

/-- A table whose entries are bit numbers of its input commutes with the complement. -/
theorem perm_not (n m : Nat) (table : List Nat) (hm : table.length = m) (hentries : ∀ j ∈ table, 1 ≤ j ∧ j ≤ n)
    (x : BitVec n) : perm m table (~~~x) = ~~~(perm m table x) := by
  refine BitVec.eq_of_getLsbD_eq fun i hi => ?_
  obtain ⟨j, hj, hbit⟩ := exists_entry_perm_getLsbD hm hi
  rw [BitVec.getLsbD_not, hbit, hbit, dbit_not x (hentries j hj), decide_eq_true hi, Bool.true_and]

/-- A field within a word commutes with the complement. The library's lemma leaves out the topmost field. -/
theorem extractLsb'_not {w start len : Nat} (h : start + len ≤ w) (x : BitVec w) :
    (~~~x).extractLsb' start len = ~~~(x.extractLsb' start len) := by
  refine BitVec.eq_of_getLsbD_eq fun i hi => ?_
  have hin : start + i < w := by omega
  simp [hi, hin]

/-- `rotl28` is the library's rotation. -/
theorem rotl28_eq_rotateLeft (v : BitVec 28) {s : Nat} (hs : s < 28) : rotl28 v s = v.rotateLeft s := by
  rw [rotl28, BitVec.rotateLeft_def, Nat.mod_eq_of_lt hs]

theorem rotl28_not (v : BitVec 28) {s : Nat} (hs : s < 28) : rotl28 (~~~v) s = ~~~(rotl28 v s) := by
  rw [rotl28_eq_rotateLeft _ hs, rotl28_eq_rotateLeft _ hs]
  refine BitVec.eq_of_getElem_eq fun i hi => ?_
  simp only [BitVec.getElem_rotateLeft, BitVec.getElem_not]
  split <;> rfl

/-- Complemented halves give the complemented subkeys. -/
theorem subKeysFrom_not {ns : List Nat} (hns : ∀ n ∈ ns, n < 28) (c d : BitVec 28) :
    subKeysFrom ns (~~~c) (~~~d) = (subKeysFrom ns c d).map (~~~·) := by
  induction ns generalizing c d with
  | nil => rfl
  | cons n ns ih =>
    obtain ⟨hn, hns⟩ := List.forall_mem_cons.mp hns
    rw [subKeysFrom, subKeysFrom, List.map_cons, rotl28_not c hn, rotl28_not d hn, ih hns, ← BitVec.not_append,
      perm_not 56 48 tablePC2 rfl (by decide)]

/-- The complemented key has the complemented subkeys. -/
theorem subKeys_not (key : Word64) : subKeys (~~~key) = (subKeys key).map (~~~·) := by
  rw [subKeys, subKeys, perm_not 64 56 tablePC1 rfl (by decide), extractLsb'_not (by omega), extractLsb'_not (by omega),
    subKeysFrom_not (by decide)]

/-- The round function adds the subkey to the expanded half, so two complements cancel. -/
theorem desF_not (r : Word32) (k : BitVec 48) : desF (~~~r) (~~~k) = desF r k := by
  rw [desF, desF, perm_not 32 48 tableE rfl (by decide), ← BitVec.not_xor_left, ← BitVec.not_xor_right, BitVec.not_not]

/-- Complemented subkeys and halves give complemented halves. -/
theorem desRounds_not (ks : List (BitVec 48)) (l r : Word32) :
    desRounds (ks.map (~~~·)) (~~~l, ~~~r) = (~~~(desRounds ks (l, r)).1, ~~~(desRounds ks (l, r)).2) := by
  induction ks generalizing l r with
  | nil => rfl
  | cons k ks ih => rw [List.map_cons, desRounds_cons, desRounds_cons, desF_not, ← BitVec.not_xor_left, ih]

theorem desNetwork_not (ks : List (BitVec 48)) (block : Word64) :
    desNetwork (ks.map (~~~·)) (~~~block) = ~~~(desNetwork ks block) := by
  rw [desNetwork, desNetwork, perm_not 64 64 tableIP rfl (by decide), extractLsb'_not (by omega),
    extractLsb'_not (by omega), desRounds_not, ← BitVec.not_append, perm_not 64 64 tableFP rfl (by decide)]

/-- Settles O40: the subkeys are complemented, in whatever order they are taken, and so is the network. -/
theorem complementOfKeyAndBlock : Obligations.ComplementOfKeyAndBlock := by
  intro key block
  rw [desDec, subKeys_not, ← List.map_reverse, desNetwork_not, desDec]

/-! ## Weak keys (rule R144) -/

/-- Two words agree outside a mask exactly when they agree once the mask's bits are set in both. -/
theorem and_not_eq_and_not_iff {w : Nat} (x y p : BitVec w) : x &&& ~~~p = y &&& ~~~p ↔ x ||| p = y ||| p := by
  have hset (z : BitVec w) : z &&& ~~~p ||| p = z ||| p := by
    ext i hi
    cases h : p[i] <;> simp [h]
  have hclear (z : BitVec w) : (z ||| p) &&& ~~~p = z &&& ~~~p := by
    ext i hi
    cases h : p[i] <;> simp [h]
  constructor
  · intro h
    rw [← hset x, h, hset]
  · intro h
    rw [← hclear x, h, hclear]

/-- Settles O41: a pattern compares all bits but the parity bits. -/
theorem weakKeyConfigurationRejectsTheListedKeys : Obligations.WeakKeyConfigurationRejectsTheListedKeys := by
  intro k
  have hcovers (w : Word64) : keyMatches { mask := 0xFEFEFEFEFEFEFEFE#64, value := w } k = true
      ↔ w ||| 0x0101010101010101 = k ||| 0x0101010101010101 := by
    rw [keyMatches, beq_iff_eq, eq_comm]
    exact and_not_eq_and_not_iff w k 0x0101010101010101
  simp only [rejectKey, Config.rejectsWeakKeys, List.any_map, List.any_eq_true, Function.comp, hcovers, List.mem_map]

end Sys2Proof.Proofs

/-! PROOFS of the family 43_decrypt_control.md: the command DECRYPT with its frame, its law of no partial results,
DECRYPT against the sequence KDF, DEC, and the two control commands with the words next to theirs. -/

namespace Sys2Proof.Proofs

open Sys2Proof.Machine Sys2Proof.Laws

/-! ## The command DECRYPT (rules R160 and R161) -/

/-- DECRYPT on an xval that is not well-formed fails, whatever the serial. -/
theorem exec_decrypt_of_not_xvalid {s : State} (herr : s.err = 0) (hx : s.xvalid = false) :
    exec .decrypt s = .next (failWith .xval s) := by
  rw [exec_decrypt_of_malformed herr (.inl hx), hx, if_neg Bool.false_ne_true]

/-- DECRYPT judges the serial once the xval is well-formed. -/
theorem exec_decrypt_of_not_svalid {s : State} (herr : s.err = 0) (hx : s.xvalid = true) (hs : s.svalid = false) :
    exec .decrypt s = .next (failWith .serial s) := by
  rw [exec_decrypt_of_malformed herr (.inr hs), if_pos hx]

/-- DECRYPT on valid operands fails when the cipher refuses the derived key. -/
theorem exec_decrypt_of_refused {s : State} (herr : s.err = 0) (hx : s.xvalid = true) (hs : s.svalid = true)
    (hk : rejectKey s.cfg (kdf s.ser) = true) : exec .decrypt s = .next (failWith .crypto s) := by
  rw [exec_of_err_eq_zero herr, commandEffect, deriveAndDecrypt]
  simp [hx, hs, hk]

/-- Settles O25: the tests of DECRYPT in the rule's order, the frame of the success being that of `loadKey` and
`loadPlaintext`. -/
theorem decryptDerivesAndDecrypts : Obligations.DecryptDerivesAndDecrypts := by
  refine ⟨decode_encode .decrypt, fun s herr => ⟨fun hcount hbad hserial htaken => ?_, fun hinvalid => ?_,
    fun hcount hbad hserial => ?_, fun hcount hbad hserial hrefused => ?_⟩⟩
  · exact exec_decrypt_of_valid herr ((xvalid_iff s).mpr ⟨hcount, hbad⟩) ((svalid_iff s).mpr hserial) htaken
  · exact exec_decrypt_of_not_xvalid herr (Bool.eq_false_iff.mpr (mt (xvalid_iff s).mp hinvalid))
  · exact exec_decrypt_of_not_svalid herr ((xvalid_iff s).mpr ⟨hcount, hbad⟩)
      (Bool.eq_false_iff.mpr (mt (svalid_iff s).mp hserial))
  · exact exec_decrypt_of_refused herr ((xvalid_iff s).mpr ⟨hcount, hbad⟩) ((svalid_iff s).mpr hserial) hrefused

/-- Settles O26, by the four outcomes of DECRYPT: the error entry clears both results, and the success writes both. -/
theorem decryptIsAllOrNothing : Obligations.DecryptIsAllOrNothing := by
  intro s herr
  refine ⟨_, exec_of_err_eq_zero herr .decrypt, ?_⟩
  rw [commandEffect]
  rcases deriveAndDecrypt_cases s with ⟨-, e⟩ | ⟨-, -, e⟩ | ⟨-, -, -, e⟩ | ⟨-, -, -, e⟩ <;> rw [e]
  · exact .inr ⟨.inl rfl, rfl, rfl, rfl, rfl⟩
  · exact .inr ⟨.inr (.inl rfl), rfl, rfl, rfl, rfl⟩
  · exact .inr ⟨.inr (.inr rfl), rfl, rfl, rfl, rfl⟩
  · exact .inl (by simp [herr])

/-! ## DECRYPT against KDF, DEC (rule R164) -/

/-- The error entry clears the key, so a key loaded before it leaves no trace. -/
@[simp] theorem failWith_loadKey (cause : ErrorCause) (k : Word64) (s : State) :
    failWith cause (loadKey k s) = failWith cause s := rfl

/-- Loading a key leaves the verdict on the xval alone. -/
@[simp] theorem loadKey_xvalid (k : Word64) (s : State) : (loadKey k s).xvalid = s.xvalid := rfl

/-- With a valid serial, DECRYPT is DEC on the unit whose key KDF has loaded. -/
theorem decryptBlock_loadKey_kdf {s : State} (hs : s.svalid = true) :
    decryptBlock (loadKey (kdf s.ser) s) = deriveAndDecrypt s := by
  rcases deriveAndDecrypt_cases s with ⟨hx, e⟩ | ⟨-, hinvalid, -⟩ | ⟨hx, -, hk, e⟩ | ⟨hx, -, hk, e⟩
  · simp [decryptBlock, e, hx]
  · exact absurd (hinvalid.symm.trans hs) Bool.false_ne_true
  · simp [decryptBlock, e, hx, hk]
  · simp [decryptBlock, e, hx, hk]

/-- With a valid serial, KDF then DEC ends in the state that DECRYPT leaves, whatever the xval and the key. -/
theorem runCommands_kdf_dec_of_svalid {s : State} (herr : s.err = 0) (hs : s.svalid = true) :
    runCommands [.kdf, .dec] s = exec .decrypt s := by
  have hdec := exec_of_err_eq_zero ((loadKey_err (kdf s.ser) s).trans herr) .dec
  rw [runCommands_cons_of_exec (exec_kdf_of_svalid herr hs), runCommands_cons_of_exec hdec, runCommands_nil,
    commandEffect, decryptBlock_loadKey_kdf hs, exec_of_err_eq_zero herr, commandEffect]

/-- With an invalid serial KDF fails, and DEC is ignored after it, whatever the xval. -/
theorem runCommands_kdf_dec_of_not_svalid {s : State} (herr : s.err = 0) (hs : s.svalid = false) :
    runCommands [.kdf, .dec] s = .next (failWith .serial s) := by
  rw [runCommands_cons_of_exec (exec_kdf_of_not_svalid herr hs),
    runCommands_cons_of_exec (exec_of_err_ne_zero (errorCode_ne_zero .serial) (by decide)), runCommands_nil]

/-- Settles O27: with a valid serial the two agree in every case; with an invalid one KDF, DEC ends with `E_SERIAL`, and
DECRYPT with the verdict on the xval first. -/
theorem decryptAgainstKdfThenDec : Obligations.DecryptAgainstKdfThenDec := by
  intro s herr
  refine ⟨fun _ hs _ => ?_, fun hx hs => ?_, fun hx hs => ?_, fun hx hs => ?_, fun hx hs hrefused => ?_⟩
  · exact (runCommands_kdf_dec_of_svalid herr hs).symm
  · exact ⟨exec_decrypt_of_not_xvalid herr hx, exec_kdf_of_svalid herr hs, runCommands_kdf_dec_of_svalid herr hs⟩
  · exact ⟨exec_decrypt_of_not_xvalid herr hx, exec_kdf_of_not_svalid herr hs,
      runCommands_kdf_dec_of_not_svalid herr hs⟩
  · exact ⟨exec_decrypt_of_not_svalid herr hx hs, runCommands_kdf_dec_of_not_svalid herr hs⟩
  · have hdecrypt := exec_decrypt_of_refused herr hx hs hrefused
    exact ⟨hdecrypt, (runCommands_kdf_dec_of_svalid herr hs).trans hdecrypt⟩

/-! ## NOP and CLR (rules R162 and R163) -/

/-- Rule R60: the opcode is the high byte of the word, and the operand the low byte. -/
theorem toNat_eq_fieldsOf (w : Word16) : w.toNat = 256 * (fieldsOf w).op.toNat + (fieldsOf w).imm8.toNat := by
  rw [← append_byte_toNat, append_fieldsOf]

/-- The 255 words after the word of a command without operand are no commands: they have its opcode, and an operand that
is not zero. -/
theorem not_decode_of_after_plain_word {op : Byte} (hop : op ∈ plainOpcodes) {w : Word16}
    (hlow : 256 * op.toNat + 1 ≤ w.toNat) (hhigh : w.toNat ≤ 256 * op.toNat + 255) : ∀ i, decode w ≠ .ok i := by
  have hfields := toNat_eq_fieldsOf w
  have himm := (fieldsOf w).imm8.isLt
  have hopcode : (fieldsOf w).op = op := BitVec.eq_of_toNat_eq (by omega)
  have hoperand : (fieldsOf w).imm8 ≠ 0 := by
    intro hzero
    rw [hopcode, hzero, BitVec.ofNat_eq_ofNat, BitVec.toNat_zero] at hfields
    omega
  exact not_decode_iff_not_wellFormed.mpr (not_wellFormed_iff.mpr (.inr ⟨hopcode ▸ hop, hoperand⟩))

/-- Settles O16: NOP has no effect on either side of the error gate, and the words after its own are no commands. -/
theorem nopChangesNothing : Obligations.NopChangesNothing :=
  ⟨fun _ => rfl, decode_encode .nop, fun _ i hlow hhigh =>
    not_decode_of_after_plain_word (op := 0x00) (by decide) hlow hhigh i⟩

/-- Settles O17: CLR clears the unit in every state, the error gate holds every other command back, and the words after
CLR's own are illegal, so that the error state ignores them. -/
theorem clrZeroesTheUnit : Obligations.ClrZeroesTheUnit := by
  refine ⟨exec_clr, decode_encode .clr, fun i s hi herr => exec_of_err_ne_zero herr hi, fun w hlow hhigh => ?_⟩
  have hillegal : ∀ i, decode w ≠ .ok i := not_decode_of_after_plain_word (op := 0x01) (by decide) hlow hhigh
  refine ⟨hillegal, fun s herr => ?_⟩
  rw [takeCommand_of_not_decode hillegal, illegalCommand_of_err_ne_zero herr]

end Sys2Proof.Proofs

/-! PROOFS of the family 44_flag_classifier.md: the message ROM, the outcomes of `Classify`, the flag vector bit by bit
with the flag table, the plaintexts with an empty list, the output list, and the command CLS. -/

namespace Sys2Proof.Proofs

open Sys2Proof.Machine Sys2Proof.Laws

/-! ## The message ROM (rule R185) -/

theorem messageBytes_length (i : BitVec 4) : (messageBytes i).length = (romRow i).1 := beBytes_length _ _

/-- Six bits hold the length of every message. -/
theorem msgLen_toNat (i : BitVec 4) : (msgLen i).toNat = (messageBytes i).length := by
  have hfits : ∀ j : BitVec 4, (romRow j).1 < 2 ^ 6 := by decide
  rw [messageBytes_length, msgLen, BitVec.toNat_ofNat, Nat.mod_eq_of_lt (hfits i)]

/-- From the end of a message on its bytes read zero. -/
theorem msgByte_of_msgLen_le {i : BitVec 4} {k : BitVec 6} (h : (msgLen i).toNat ≤ k.toNat) : msgByte i k = 0 := by
  rw [msgLen_toNat] at h
  exact List.getD_eq_default _ _ h

/-- Below the length a read answers the message's byte. -/
theorem getElem?_messageBytes_of_lt_msgLen {i : BitVec 4} {k : BitVec 6} (h : k.toNat < (msgLen i).toNat) :
    (messageBytes i)[k.toNat]? = some (msgByte i k) := by
  rw [msgLen_toNat] at h
  rw [msgByte, List.getD_eq_getElem _ _ h, List.getElem?_eq_getElem h]

/-- Settles O45: the sixteen strings are compared with the ROM, and the reads follow from the length of a message. -/
theorem messageRomHoldsTheStrings : Obligations.MessageRomHoldsTheStrings :=
  ⟨by decide, msgLen_toNat, fun _ _ => msgByte_of_msgLen_le, fun _ _ => getElem?_messageBytes_of_lt_msgLen⟩

/-! ## The four outcomes (rule R181) -/

/-- `C_CLEAN`. -/
theorem classify_of_zeros {pt : Word64} (hlo : lowBits pt = 0) (hhi : highBits pt = 0) :
    classify pt = (1, 0x2000) := by
  rw [classify, if_pos ⟨hlo, hhi⟩, classCode]

/-- `C_INVALID`, tested before the words that are merely not zero. -/
theorem classify_of_ones {pt : Word64} (hlo : lowBits pt = 0xFFFFFFFF) (hhi : highBits pt = 0xFFFFFFFF) :
    classify pt = (2, 0x4000) := by
  have hlo0 : lowBits pt ≠ 0 := hlo ▸ by decide
  rw [classify, if_neg (mt And.left hlo0), if_pos ⟨hlo, hhi⟩, classCode]

/-- `C_DECERR`. -/
theorem classify_of_nonzero {pt : Word64} (hlo : lowBits pt ≠ 0) (hhi : highBits pt ≠ 0)
    (hones : ¬ (lowBits pt = 0xFFFFFFFF ∧ highBits pt = 0xFFFFFFFF)) : classify pt = (3, 0x8000) := by
  rw [classify, if_neg (mt And.left hlo), if_neg hones, if_pos ⟨hlo, hhi⟩, classCode]

/-- The code of the fourth outcome tells it: exactly one of the two words is zero. -/
theorem classify_eq_flags_iff (pt : Word64) (v : Word16) :
    classify pt = (4, v) ↔
      (lowBits pt = 0 ∧ highBits pt ≠ 0 ∨ lowBits pt ≠ 0 ∧ highBits pt = 0) ∧ flagVector (lowBits pt) = v := by
  rcases classify_cases pt with ⟨hlo, hhi, h⟩ | ⟨hlo, hhi, h⟩ | ⟨hlo, hhi, -, h⟩ | ⟨hone, h⟩ <;> rw [h]
  · simp [hlo, hhi]
  · simp [hlo, hhi]
  · exact iff_of_false (by simp) (by tauto)
  · exact ⟨fun e => ⟨hone, congrArg Prod.snd e⟩, fun ⟨_, e⟩ => congrArg _ e⟩

/-- A test on a word of the plaintext is a test on a remainder or a quotient by `2^32` (rule R180). -/
theorem lowBits_eq_iff (pt : Word64) (w : Word32) : lowBits pt = w ↔ pt.toNat % 2 ^ 32 = w.toNat := by
  rw [← lowBits_toNat, BitVec.toNat_inj]

theorem highBits_eq_iff (pt : Word64) (w : Word32) : highBits pt = w ↔ pt.toNat / 2 ^ 32 = w.toNat := by
  rw [← highBits_toNat, BitVec.toNat_inj]

/-- Settles O42: the tests of `Classify` are read as tests on the quotient and the remainder by `2^32`. -/
theorem classifyFollowsThePriorityOrder : Obligations.ClassifyFollowsThePriorityOrder := by
  intro pt
  have hlo0 : lowBits pt = 0 ↔ pt.toNat % 2 ^ 32 = 0 := lowBits_eq_iff pt 0
  have hhi0 : highBits pt = 0 ↔ pt.toNat / 2 ^ 32 = 0 := highBits_eq_iff pt 0
  have hlo1 : lowBits pt = 0xFFFFFFFF ↔ pt.toNat % 2 ^ 32 = 2 ^ 32 - 1 := lowBits_eq_iff pt 0xFFFFFFFF
  have hhi1 : highBits pt = 0xFFFFFFFF ↔ pt.toNat / 2 ^ 32 = 2 ^ 32 - 1 := highBits_eq_iff pt 0xFFFFFFFF
  have hlo : BitVec.ofNat 32 (pt.toNat % 2 ^ 32) = lowBits pt := by
    rw [← lowBits_toNat, BitVec.ofNat_toNat, BitVec.setWidth_eq]
  refine ⟨fun ⟨h, h'⟩ => ?_, fun ⟨h, h'⟩ => ?_, fun ⟨h, h', hones⟩ => ?_, fun hone => ?_⟩
  · exact classify_of_zeros (hlo0.mpr h) (hhi0.mpr h')
  · exact classify_of_ones (hlo1.mpr h) (hhi1.mpr h')
  · exact classify_of_nonzero (mt hlo0.mp h) (mt hhi0.mp h') (mt (And.imp hlo1.mp hhi1.mp) hones)
  · exact (classify_eq_flags_iff pt _).mpr
      ⟨hone.imp (And.imp hlo0.mpr (mt hhi0.mp)) (And.imp (mt hlo0.mp) hhi0.mpr), congrArg flagVector hlo.symm⟩

/-! ## The flag vector bit by bit (rules R183 and R184) -/

/-- A vector is not zero when it has a bit. -/
theorem ne_zero_iff_exists_getLsbD {w : Nat} (x : BitVec w) : x ≠ 0#w ↔ ∃ i, x.getLsbD i = true := by
  constructor
  · intro hne
    by_contra! hbits
    exact hne (BitVec.eq_of_getLsbD_eq fun i _ => by simpa using hbits i)
  · rintro ⟨i, hi⟩ rfl
    simp at hi

/-- `UNKNOWN_MASK` is bits 15 to 31. -/
theorem unknownMask_getLsbD (j : Nat) : unknownMask.getLsbD j = (decide (15 ≤ j) && decide (j ≤ 31)) := by
  have hmask : unknownMask = BitVec.allOnes 32 <<< 15 := by decide
  rw [hmask, BitVec.getLsbD_shiftLeft, BitVec.getLsbD_allOnes, Bool.eq_iff_iff]
  simp only [Bool.and_eq_true, Bool.not_eq_true', decide_eq_true_iff, decide_eq_false_iff_not]
  omega

/-- Rule R183: some bit from 15 to 31 is set. -/
theorem unknownViolation_iff (lo : Word32) :
    unknownViolation lo = true ↔ ∃ j, 15 ≤ j ∧ j ≤ 31 ∧ lo.getLsbD j = true := by
  rw [unknownViolation, bne_iff_ne]
  refine (ne_zero_iff_exists_getLsbD _).trans (exists_congr fun j => ?_)
  rw [BitVec.getLsbD_and, unknownMask_getLsbD]
  simp only [Bool.and_eq_true, decide_eq_true_iff]
  tauto

/-- Every bit of the flag vector: a flag's bit is that of `lo`, and bit 12 is the unknown violation. -/
theorem flagVector_getLsbD (lo : Word32) (i : Nat) :
    (flagVector lo).getLsbD i = (decide (i < 12) && lo.getLsbD i || unknownViolation lo && decide (i = 12)) := by
  have hflags : (0x0FFF : Word32).getLsbD i = decide (i < 12) := by
    rw [BitVec.ofNat_eq_ofNat, BitVec.getLsbD_ofNat, Nat.testBit_two_pow_sub_one 12 i, ← Bool.decide_and]
    exact decide_eq_decide.mpr (by omega)
  have hunknown : (0x1000 : Word16).getLsbD i = decide (i = 12) :=
    (BitVec.getLsbD_twoPow 12 i).trans (decide_eq_decide.mpr eq_comm)
  rw [flagVector, BitVec.getLsbD_or, BitVec.getLsbD_setWidth, BitVec.getLsbD_and, hflags,
    apply_ite (BitVec.getLsbD · i), hunknown]
  have hwidth : i < 12 → i < 16 := by omega
  by_cases hi : i < 12
  · simp [hi, hwidth hi, hi.ne]
  · cases unknownViolation lo <;> simp [hi]

/-- A bit of the twelve flags is that of `lo`. -/
theorem flagVector_getLsbD_low (lo : Word32) {i : Nat} (hi : i < 12) : (flagVector lo).getLsbD i = lo.getLsbD i := by
  simp [flagVector_getLsbD, hi, hi.ne]

/-- Bit 12 is the unknown violation. -/
theorem flagVector_getLsbD_twelve (lo : Word32) : (flagVector lo).getLsbD 12 = unknownViolation lo := by
  rw [flagVector_getLsbD]
  simp

/-- Settles O43, range by range of the bits of the flag vector. -/
theorem flagVectorBitByBit : Obligations.FlagVectorBitByBit := fun lo =>
  ⟨fun _ => flagVector_getLsbD_low lo, by rw [flagVector_getLsbD_twelve, unknownViolation_iff],
    fun _ => flagVector_getLsbD_high lo⟩

/-! ## The flag table (rule R182) -/

theorem flagPosition_lt_twelve (f : FlagBit) : flagPosition f < 12 := by cases f <;> decide

/-- The mask of one bit meets a word exactly when the word has that bit. -/
theorem and_one_shiftLeft_ne_zero_iff {w n : Nat} (hn : n < w) (x : BitVec w) :
    x &&& 1#w <<< n ≠ 0 ↔ x.getLsbD n = true := by
  have hpow : BitVec.twoPow w n ≠ 0#w :=
    (ne_zero_iff_exists_getLsbD _).mpr ⟨n, by simp [hn]⟩
  rw [← BitVec.twoPow_eq, BitVec.and_twoPow]
  cases x.getLsbD n <;> simp [hpow]

/-- Settles O58: the rows are compared with the table, and each flag's bit is one of the twelve that the flag vector
takes from `lo`. -/
theorem flagTableRowByRow : Obligations.FlagTableRowByRow := by
  refine ⟨by decide, fun f lo => ?_⟩
  have hf := flagPosition_lt_twelve f
  rw [flagVector_getLsbD_low lo hf, and_one_shiftLeft_ne_zero_iff (by omega)]

/-! ## The empty list (rule R188) -/

/-- With an empty flag vector `lo` has no bit but the silent ones, 12 to 14. -/
theorem exists_silentBits_of_flagVector_eq_zero {lo : Word32} (h : flagVector lo = 0) :
    ∃ k : BitVec 3, lo = k.setWidth 32 <<< 12 := by
  have hflags (i : Nat) (hi : i < 12) : lo.getLsbD i = false := by
    rw [← flagVector_getLsbD_low lo hi, h, BitVec.ofNat_eq_ofNat, BitVec.getLsbD_zero]
  have hunknown : ¬ ∃ j, 15 ≤ j ∧ j ≤ 31 ∧ lo.getLsbD j = true := by
    rw [← unknownViolation_iff, ← flagVector_getLsbD_twelve, h]
    decide
  refine ⟨lo.extractLsb' 12 3, BitVec.eq_of_getLsbD_eq fun i hi => ?_⟩
  rw [BitVec.getLsbD_shiftLeft, BitVec.getLsbD_setWidth, BitVec.getLsbD_extractLsb']
  by_cases hlow : i < 12
  · simp [hlow, hflags i hlow]
  by_cases hsilent : i < 15
  · have hsub : i - 12 < 3 ∧ i - 12 < 32 ∧ 12 + (i - 12) = i := by omega
    simp [hlow, hi, hsub]
  · have hsub : ¬ i - 12 < 3 := by omega
    have hclear : lo.getLsbD i = false :=
      Bool.eq_false_iff.mpr fun hbit => hunknown ⟨i, by omega, by omega, hbit⟩
    simp [hsub, hclear]

/-- The words `lo` that rule R188 lists. -/
def silentWords : List Word32 := [0x1000, 0x2000, 0x3000, 0x4000, 0x5000, 0x6000, 0x7000]

/-- The words `lo` with an empty flag vector: zero, and the seven with silent bits only. -/
theorem flagVector_eq_zero_iff (lo : Word32) : flagVector lo = 0 ↔ lo = 0 ∨ lo ∈ silentWords := by
  constructor
  · intro h
    obtain ⟨k, rfl⟩ := exists_silentBits_of_flagVector_eq_zero h
    have hlisted : ∀ k : BitVec 3, k.setWidth 32 <<< 12 = (0 : Word32) ∨ k.setWidth 32 <<< 12 ∈ silentWords := by
      decide
    exact hlisted k
  · have hempty : (0 :: silentWords).all (flagVector · == 0) = true := by decide
    exact fun h => eq_of_beq (List.all_eq_true.mp hempty lo (List.mem_cons.mpr h))

/-- Settles O44: the fourth outcome with an empty flag vector. The families are told apart by which word is zero. -/
theorem emptyListHasExactlyTwoFamilies : Obligations.EmptyListHasExactlyTwoFamilies := by
  intro pt
  have hzero : (0 : Word32) ∉ silentWords := by decide
  rw [classify_eq_flags_iff, flagVector_eq_zero_iff]
  change _ ↔ highBits pt = 0 ∧ lowBits pt ∈ silentWords ∨ lowBits pt = 0 ∧ highBits pt ≠ 0
  by_cases hlo : lowBits pt = 0
  · rw [hlo]
    tauto
  · tauto

/-! ## The output list (rule R186) -/

theorem messageIndices_pairwise_lt (msgv : Word16) : (messageIndices msgv).Pairwise (· < ·) := by
  have hlt {i : Nat} (hi : i ∈ (List.range 16).filter fun i => msgv.getLsbD i) : i < 16 :=
    List.mem_range.mp (List.mem_of_mem_filter hi)
  refine List.pairwise_map.mpr ((List.pairwise_lt_range.filter _).imp_of_mem fun {i j} hi hj hij => ?_)
  rwa [BitVec.lt_def, ofNat_four_toNat (hlt hi), ofNat_four_toNat (hlt hj)]

/-- Settles O46: filtering the indices in ascending order keeps the order. -/
theorem outputListIsTheSetBitsAscending : Obligations.OutputListIsTheSetBitsAscending := fun msgv =>
  ⟨rfl, messageIndices_pairwise_lt msgv, mem_messageIndices msgv⟩

/-! ## The command CLS (rule R187) -/

/-- Settles O24: the two outcomes of CLS by the validity of the plaintext. -/
theorem clsClassifiesThePlaintext : Obligations.ClsClassifiesThePlaintext := by
  refine ⟨decode_encode .cls, fun s herr => ?_⟩
  rw [exec_of_err_eq_zero herr, commandEffect]
  rcases classifyPlaintext_cases s with ⟨hvalid, e⟩ | ⟨hinvalid, e⟩ <;> rw [e]
  · exact ⟨fun _ => rfl, fun hpv => absurd (hpv.symm.trans hvalid) Bool.false_ne_true⟩
  · exact ⟨fun hpv => absurd (hinvalid.symm.trans hpv) Bool.false_ne_true, fun _ => rfl⟩

end Sys2Proof.Proofs

/-! PROOFS of the family 60_exceptions.md: the error entry and its codes, what a command, an event and a step can do to
`ERR`, and the error state with its two exits. -/

namespace Sys2Proof.Proofs

open Sys2Proof.Machine Sys2Proof.Laws

/-! ## The error entry (rule R202) -/

/-- Settles O10: the error entry is this one record update, the classification discarded with the other results. -/
theorem failClearsEveryResult : Obligations.FailClearsEveryResult := fun _ _ => rfl

/-! ## Which causes are raised (rules R201, R205 and R206) -/

/-- The causes a command can raise, in the order of its tests (rule R205). -/
def causesOf : Instr → List ErrorCause
  | .nop | .clr | .pushs _ | .pushx _ | .pushp _ => []
  | .kdf => [.serial]
  | .dec => [.xval, .noKey, .crypto]
  | .cls => [.pLen]
  | .decrypt => [.xval, .serial, .crypto]

/-- The causes that are raised at all, by a command or by an undefined word: all but `internal` (rule R202). -/
def raisedCauses : List ErrorCause := [.xval, .serial, .crypto, .noKey, .pLen, .illegal]

theorem causesOf_subset (i : Instr) : causesOf i ⊆ raisedCauses := by
  cases i <;> simp [causesOf, raisedCauses]

/-- What can become of `ERR` where only `causes` are raised: it stays, it is cleared, or the code of one of them is
recorded, `E_CRYPTO` only under a configuration that refuses some key (rule R207). -/
def ErrFollows (causes : List ErrorCause) (s t : State) : Prop :=
  t.err = s.err ∨ t.err = 0
    ∨ ∃ cause ∈ causes, t.err = errorCode cause ∧ (cause = .crypto → ∃ k, rejectKey s.cfg k = true)

section ErrFollows

variable {causes causes' : List ErrorCause} {s t : State}

theorem ErrFollows.of_eq (h : t.err = s.err) : ErrFollows causes s t := .inl h

theorem ErrFollows.of_zero (h : t.err = 0) : ErrFollows causes s t := .inr (.inl h)

/-- A raised cause other than `crypto` has its code recorded. -/
theorem ErrFollows.of_failWith {cause : ErrorCause} (hmem : cause ∈ causes) (hcause : cause ≠ .crypto) :
    ErrFollows causes s (failWith cause s) :=
  .inr (.inr ⟨cause, hmem, failWith_err cause s, fun h => absurd h hcause⟩)

/-- The code of `crypto` is recorded for a key the cipher refuses. -/
theorem ErrFollows.of_failWith_crypto (hmem : .crypto ∈ causes) {k : Word64} (hk : rejectKey s.cfg k = true) :
    ErrFollows causes s (failWith .crypto s) :=
  .inr (.inr ⟨.crypto, hmem, failWith_err .crypto s, fun _ => ⟨k, hk⟩⟩)

theorem ErrFollows.mono (h : ErrFollows causes s t) (hsub : causes ⊆ causes') : ErrFollows causes' s t := by
  rcases h with h | h | ⟨cause, hmem, hcode⟩
  · exact .of_eq h
  · exact .of_zero h
  · exact .inr (.inr ⟨cause, hsub hmem, hcode⟩)

/-- Behind the error gate `ERR` stays, or what stands there decides (rule R203). -/
theorem ErrFollows.unlessError {act : State → State} (h : ErrFollows causes s (act s)) :
    ErrFollows causes s (unlessError act s) := by
  rcases unlessError_cases act s with ⟨-, e⟩ | ⟨-, e⟩ <;> rw [e]
  · exact h
  · exact .of_eq rfl

end ErrFollows

/-- A command raises its own causes and no others. -/
theorem commandEffect_errFollows (i : Instr) (s : State) : ErrFollows (causesOf i) s (commandEffect i s) := by
  cases i with
  | nop => exact .of_eq rfl
  | clr => exact .of_zero rfl
  | pushs b => exact .of_eq rfl
  | pushx c => exact .of_eq (pushXvalChar_err c s)
  | pushp b => exact .of_eq rfl
  | kdf =>
    rw [commandEffect]
    rcases deriveKey_cases s with ⟨-, e⟩ | ⟨-, e⟩ <;> rw [e]
    · exact .of_eq rfl
    · exact .of_failWith (by decide) (by decide)
  | dec =>
    rw [commandEffect]
    rcases decryptBlock_cases s with ⟨-, e⟩ | ⟨-, -, e⟩ | ⟨-, -, hreject, e⟩ | ⟨-, -, -, e⟩ <;> rw [e]
    · exact .of_failWith (by decide) (by decide)
    · exact .of_failWith (by decide) (by decide)
    · exact .of_failWith_crypto (by decide) hreject
    · exact .of_eq rfl
  | cls =>
    rw [commandEffect]
    rcases classifyPlaintext_cases s with ⟨-, e⟩ | ⟨-, e⟩ <;> rw [e]
    · exact .of_eq rfl
    · exact .of_failWith (by decide) (by decide)
  | decrypt =>
    rw [commandEffect]
    rcases deriveAndDecrypt_cases s with ⟨-, e⟩ | ⟨-, -, e⟩ | ⟨-, -, hreject, e⟩ | ⟨-, -, -, e⟩ <;> rw [e]
    · exact .of_failWith (by decide) (by decide)
    · exact .of_failWith (by decide) (by decide)
    · exact .of_failWith_crypto (by decide) hreject
    · exact .of_eq rfl

theorem exec_errFollows {i : Instr} {s t : State} (h : exec i s = .next t) : ErrFollows (causesOf i) s t := by
  by_cases hi : i = .clr
  · subst hi
    obtain rfl := Host.Outcome.next.inj h
    exact .of_zero rfl
  · rw [exec_eq_unlessError hi] at h
    obtain rfl := Host.Outcome.next.inj h
    exact (commandEffect_errFollows i s).unlessError

/-- An undefined word raises `illegal`, any other the causes of its command. -/
theorem takeCommand_errFollows {w : Word16} {s t : State} (h : takeCommand w s = .next t) :
    ErrFollows raisedCauses s t := by
  rw [takeCommand] at h
  cases hw : decode w with
  | ok i =>
    rw [hw] at h
    exact (exec_errFollows h).mono (causesOf_subset i)
  | error _ =>
    rw [hw] at h
    obtain rfl := Host.Outcome.next.inj h
    exact .unlessError (.of_failWith (by decide) (by decide))

theorem takeEvent_errFollows {e : HostEvent} {s t : State} (h : takeEvent e s = .next t) :
    ErrFollows raisedCauses s t := by
  cases e with
  | command w =>
    by_cases hline : s.resetLine = true
    · obtain rfl := Host.Outcome.next.inj ((if_pos hline).symm.trans h)
      exact .of_eq rfl
    · exact takeCommand_errFollows ((if_neg hline).symm.trans h)
  | assertReset =>
    obtain rfl := Host.Outcome.next.inj h
    exact .of_zero rfl
  | releaseReset =>
    obtain rfl := Host.Outcome.next.inj h
    exact .of_eq rfl

/-- `ErrFollows` reads `ERR` and the configuration, so the event taken out of the queue makes no difference. -/
theorem step_errFollows {s t : State} (h : step s = .next t) : ErrFollows raisedCauses s t := by
  cases hinputs : s.inputs with
  | nil =>
    obtain rfl := Host.Outcome.next.inj ((step_idle hinputs).symm.trans h)
    exact .of_eq rfl
  | cons e rest =>
    have hevent : ErrFollows raisedCauses { s with inputs := rest } t :=
      takeEvent_errFollows ((step_event hinputs).symm.trans h)
    exact hevent

/-- Only KDF, DEC, CLS and DECRYPT raise anything (rule R201). -/
theorem causesOf_eq_nil {i : Instr} (hkdf : i ≠ .kdf) (hdec : i ≠ .dec) (hcls : i ≠ .cls) (hdecrypt : i ≠ .decrypt) :
    causesOf i = [] := by
  cases i with
  | nop | clr | pushs _ | pushx _ | pushp _ => rfl
  | kdf => exact absurd rfl hkdf
  | dec => exact absurd rfl hdec
  | cls => exact absurd rfl hcls
  | decrypt => exact absurd rfl hdecrypt

/-- Settles O11: a command without causes of its own has no code to record. -/
theorem errorCodesAndCommandsThatNeverFail : Obligations.ErrorCodesAndCommandsThatNeverFail := by
  refine ⟨rfl, fun i s t hkdf hdec hcls hdecrypt hexec => ?_⟩
  have hfollows := exec_errFollows hexec
  rw [causesOf_eq_nil hkdf hdec hcls hdecrypt] at hfollows
  rcases hfollows with hsame | hzero | ⟨_, hmem, -⟩
  · exact .inr hsame
  · exact .inl hzero
  · exact absurd hmem List.not_mem_nil

/-- Code 4 is that of no raised cause (rule R206). -/
theorem errorCode_ne_four_of_mem_raisedCauses : ∀ cause ∈ raisedCauses, errorCode cause ≠ 4 := by decide

/-- Settles O14: a step leaves `ERR`, clears it, or records the code of a raised cause. -/
theorem internalErrorIsNeverRecorded : Obligations.InternalErrorIsNeverRecorded := by
  refine ⟨fun s t herr hstep => ?_, by decide⟩
  rcases step_errFollows hstep with h | h | ⟨cause, hmem, h, -⟩ <;> rw [h]
  · exact herr
  · decide
  · exact errorCode_ne_four_of_mem_raisedCauses cause hmem

/-- Settles O15: code 3 is that of `crypto` alone, which needs a refused key, and the default refuses none. -/
theorem cryptoErrorNeedsARejectedKey : Obligations.CryptoErrorNeedsARejectedKey := by
  intro s t hcfg herr hstep
  refine ⟨(stepKeepsTheConfiguration s t hstep).trans hcfg, ?_⟩
  rcases step_errFollows hstep with h | h | ⟨cause, -, h, hrefused⟩ <;> rw [h]
  · exact herr
  · decide
  · intro hthree
    obtain ⟨k, hk⟩ := hrefused ((errorCode_eq_three_iff cause).mp hthree)
    rw [hcfg, rejectKey_neverRejects] at hk
    exact Bool.false_ne_true hk

/-! ## The error state (rules R203 and R204) -/

/-- Settles O12: the port ignores the word, and STATUS at read index 0 has `ERRF` at bit 0. -/
theorem errorStateIgnoresAllButClr : Obligations.ErrorStateIgnoresAllButClr := by
  intro s herr
  obtain ⟨hread, -⟩ := registerReadMap s
  obtain ⟨herrf, -⟩ := statusWordBitByBit.2 s
  exact ⟨fun _ hw => takeCommand_of_err_ne_zero hw herr, beq_false_of_ne herr, hread, herrf.mpr herr⟩

/-- CLR and the assertion of reset leave the elements of the reset state, whatever the host's side (rule R231). -/
theorem sameUnit_resetElements (c : Config) (line : Bool) (events : List HostEvent) :
    sameUnit { State.reset with cfg := c, resetLine := line, inputs := events } State.reset = true :=
  decide_eq_true rfl

/-- In the error state every other event leaves `ERR` alone. -/
theorem takeEvent_err_of_err_ne_zero {e : HostEvent} {s t : State} (herr : s.err ≠ 0) (hclr : e ≠ .command 0x0100)
    (hreset : e ≠ .assertReset) (h : takeEvent e s = .next t) : t.err = s.err := by
  cases e with
  | command w =>
    have hw : w ≠ 0x0100 := fun hw => hclr (congrArg HostEvent.command hw)
    have hignored : takeEvent (.command w) s = .next s := by
      rw [takeEvent, takeCommand_of_err_ne_zero hw herr, ite_self]
    exact congrArg State.err (Host.Outcome.next.inj (h.symm.trans hignored))
  | assertReset => exact absurd rfl hreset
  | releaseReset =>
    obtain rfl := Host.Outcome.next.inj h
    rfl

/-- The word of CLR is lost while reset is asserted, and clears the unit otherwise (rules R163 and R230). -/
theorem takeEvent_clr_cases (s : State) :
    takeEvent (.command 0x0100) s = .next s ∨ takeEvent (.command 0x0100) s = .next (clearUnit s) := by
  by_cases hline : s.resetLine = true
  · exact .inl (if_pos hline)
  · exact .inr ((if_neg hline).trans (takeCommand_encode .clr s))

/-- Settles O13: every event but CLR and the assertion of reset leaves `ERR` alone, and so does CLR where it is lost. -/
theorem errorStateIsLeftOnlyByClrOrReset : Obligations.ErrorStateIsLeftOnlyByClrOrReset := by
  refine fun s herr => ⟨fun e t hevent hleft => ?_, ⟨_, exec_clr s, rfl⟩, ⟨_, rfl, rfl⟩⟩
  by_cases hclr : e = .command 0x0100
  · subst hclr
    rcases takeEvent_clr_cases s with hlost | hcleared
    · exact absurd (congrArg State.err (Host.Outcome.next.inj (hevent.symm.trans hlost))) hleft
    · obtain rfl := Host.Outcome.next.inj (hcleared.symm.trans hevent)
      exact ⟨.inl rfl, sameUnit_resetElements _ _ _⟩
  · by_cases hreset : e = .assertReset
    · subst hreset
      obtain rfl := Host.Outcome.next.inj hevent
      exact ⟨.inr rfl, sameUnit_resetElements _ _ _⟩
    · exact absurd (takeEvent_err_of_err_ne_zero herr hclr hreset hevent) hleft

end Sys2Proof.Proofs

/-! PROOFS of the family 70_reset_and_hazards.md: every step and every run ends, and the two ways into the reset state,
the reset input and CLR. -/

namespace Sys2Proof.Proofs

open Sys2Proof.Machine Sys2Proof.Laws

/-! ## Completion (rules R236 and R237) -/

/-- A run of command words ends in a next state, by induction on the words. -/
theorem runWords_next (ws : List Word16) (s : State) : ∃ t, runWords ws s = .next t := by
  induction ws generalizing s with
  | nil => exact ⟨s, rfl⟩
  | cons w ws ih =>
    obtain ⟨t, ht, -⟩ := takeCommand_next w s
    rw [runWords_cons_of_takeCommand ht]
    exact ih t

/-- Settles O8: the two parts are `step_next` and `runWords_next`. -/
theorem everyRunCompletes : Obligations.EveryRunCompletes := by
  refine ⟨fun s => ?_, runWords_next⟩
  obtain ⟨t, ht, -⟩ := step_next s
  exact ⟨t, ht⟩

/-! ## The reset input (rule R230) -/

/-- A register read sees the fourteen elements of rule R10 only. -/
theorem rd_eq_of_sameUnit {s t : State} (h : sameUnit s t = true) (r : BitVec 5) : rd s r = rd t r := by
  have helements : { s with cfg := t.cfg, resetLine := t.resetLine, inputs := t.inputs } = t := of_decide_eq_true h
  calc
    rd s r = rd { s with cfg := t.cfg, resetLine := t.resetLine, inputs := t.inputs } r := rfl
    _ = rd t r := by rw [helements]

/-- While reset is asserted a command word is lost (notes/assumptions/2.md). -/
theorem takeEvent_command_of_resetLine {s : State} (h : s.resetLine = true) (w : Word16) :
    takeEvent (.command w) s = .next s := if_pos h

/-- Settles O51: asserting and releasing reset both leave the reset elements, and differ in the level of the input. -/
theorem resetInputHoldsTheResetState : Obligations.ResetInputHoldsTheResetState := by
  intro s
  have hasserted : sameUnit { clearUnit s with resetLine := true } State.reset = true := sameUnit_resetElements _ _ _
  have hreleased : sameUnit { clearUnit s with resetLine := false } State.reset = true := sameUnit_resetElements _ _ _
  exact ⟨_, _, rfl, hasserted, fun r => (rd_eq_of_sameUnit hasserted r).trans (rd_reset r),
    takeEvent_command_of_resetLine rfl, rfl, hreleased, rfl⟩

/-! ## CLR and reset (rule R231) -/

/-- The level of the reset input is no element of rule R10. -/
theorem sameUnit_setResetLine (s : State) (line : Bool) : sameUnit s { s with resetLine := line } = true :=
  decide_eq_true rfl

/-- A cleared unit is not changed by clearing it again (rule R163). -/
theorem clearUnit_clearUnit (s : State) : clearUnit (clearUnit s) = clearUnit s := rfl

/-- Settles O52: the assertion of reset is `clearUnit` with the input raised, and `clearUnit` is idempotent. -/
theorem clrAndResetGiveTheSameState : Obligations.ClrAndResetGiveTheSameState := by
  intro s
  have hagain : exec .clr (clearUnit s) = .next (clearUnit s) := by rw [exec_clr, clearUnit_clearUnit]
  exact ⟨_, _, exec_clr s, rfl, sameUnit_setResetLine _ _, sameUnit_resetElements _ _ _, hagain⟩

end Sys2Proof.Proofs
